-- ==== Sys2Proof/Word.lean ====
section
/-! DEFINITION. The two data widths of the machine (00_scope.md R7) and their names; nothing else. -/

namespace Sys2Proof

/-- An 8-bit register value, memory byte or d8 immediate; always unsigned (R7, R13). -/
abbrev Byte := BitVec 8

/-- A 16-bit address, pair view, SP, PC or d16 immediate; its arithmetic wraps modulo 2^16 (R7, R58). -/
abbrev Word := BitVec 16

end Sys2Proof
end

