-- ==== Sys2Proof/Machine/Bytes.lean ====
section
/-! DEFINITION. The byte order of a Word (20_memory.md R55): little-endian, with FromBytes and ToBytes exact inverses. -/

namespace Sys2Proof.Machine

/-- `Word.FromBytes(lsb, msb)` (R55): the word whose low byte is lsb and whose high byte is msb. -/
def fromBytes (lsb msb : Byte) : Word := msb ++ lsb

/-- The low byte of `Word.ToBytes()` (R55): v[7:0]. -/
def lsb (v : Word) : Byte := v.extractLsb' 0 8

/-- The high byte of `Word.ToBytes()` (R55): v[15:8]. -/
def msb (v : Word) : Byte := v.extractLsb' 8 8

end Sys2Proof.Machine
end

