-- ==== Sys2Proof/Config.lean ====
section
/-! DEFINITION. What one implementation fixes and the spec leaves as a parameter of the model: MEM_SIZE (00_scope.md R8)
and PAIR_ORDER (R9). A configuration is plain data carried by State and never changed by a step, so that every claim
"for every state" is a claim for every configuration. The third parameter, INIT (R11), is the starting state itself
(Machine/Construct.lean). The spec has no free value: no instruction's result is undefined. -/

namespace Sys2Proof

/-- Which register of a pair is the high byte (R9, R22). -/
inductive PairOrder where
  /-- The first-named register is the high byte: the spec's own choice (R9, D1). -/
  | highFirst
  /-- The first-named register is the low byte: the wiring of the original source (R9, R22). -/
  | lowFirst
deriving DecidableEq, Repr

/-- The parameters of the model other than INIT. -/
structure Config where
  /-- MEM_SIZE: the number of bytes of memory; valid addresses are 0 to MEM_SIZE - 1 (R8, R51). -/
  memSize : Nat
  /-- PAIR_ORDER (R9; notes/assumptions/3.md). -/
  pairOrder : PairOrder
deriving DecidableEq, Repr

/-- The largest MEM_SIZE: every 16-bit address is then valid (R8, R54). -/
def Config.maxMemSize : Nat := 65536

/-- The configuration State.reset has. PAIR_ORDER is the spec's choice (R9); MEM_SIZE is open in the spec (D3), and 65536 is
a DESIGN CHOICE (notes/assumptions/2.md, unsafe). -/
def Config.standard : Config := { memSize := Config.maxMemSize, pairOrder := .highFirst }

end Sys2Proof
end

