-- ==== Sys2Proof/Machine/State.lean ====
section
/-! DEFINITION. Every piece of state the spec gives the machine (10_state.md section 1), its faults (60_exceptions.md R220),
and the state after construction, the machine's one reset (70_reset_and_hazards.md R250). The opcode table is a constant of
the decoder (R37) and the cycle count an output of the step (R39): neither is state. -/

namespace Sys2Proof.Machine

/-- The eight 8-bit cells of the register file (R20). -/
inductive Reg8 where
  | a | f | b | c | d | e | h | l
deriving DecidableEq, Repr

/-- The four 16-bit views, built by aliasing two cells each; they have no storage of their own (R21). -/
inductive Pair where
  | af | bc | de | hl
deriving DecidableEq, Repr

/-- A 16-bit register: a pair view or the standalone SP (R14, R24). The code of an rr operand selects BC, DE, HL or SP (R29). -/
inductive Reg16 where
  | pair (p : Pair)
  | sp
deriving DecidableEq, Repr

/-- The four flags, bits 7, 6, 5 and 4 of F (R25). Hf and Cy are the spec's names for half-carry and carry (R14). -/
inductive FlagName where
  | z | n | hf | cy
deriving DecidableEq, Repr

/-- What register F stores (R25). F[3:0] is hardwired to zero (D2): those bits are not stored at all, so that no path can
write them (notes/assumptions/6.md); the byte view of F is Flags.toByte. -/
structure Flags where
  z  : Bool
  n  : Bool
  hf : Bool
  cy : Bool
deriving DecidableEq, Repr

/-- The kind of a memory access, recorded by MemFault (R52, R53). -/
inductive AccessKind where
  /-- the opcode byte -/
  | fetch
  /-- an immediate byte -/
  | imm
  /-- a data operand read -/
  | read
  /-- a data operand write -/
  | write
deriving DecidableEq, Repr

/-- The internal contracts of R133 and R223. A flag and an operation variant are closed types here, so only a bit index can
be out of range (notes/assumptions/10.md). -/
inductive Contract where
  /-- a bit index outside 0 to 7 -/
  | bitIndex
  /-- an unknown flag -/
  | flagName
  /-- an unknown operation variant -/
  | operationVariant
deriving DecidableEq, Repr

/-- The closed set of fault causes (R220). A fault changes nothing: the faulted state is the state before the step
(R225), and a model of the block alone stops there (R226). -/
inductive Fault where
  /-- Raised by Machine/Fetch.lean when the byte at PC is one of the 76 undefined codes (R221). Safe: the spec names it. -/
  | undefinedOpcode (code : Byte) (pc : Word)
  /-- Raised by memRead and memWrite (Machine/Ops.lean) at an address ≥ MEM_SIZE (R222). Safe: the spec names it. -/
  | memFault (addr : Word) (kind : AccessKind)
  /-- Raised by bitGet and bitSet (Machine/Ops.lean) only, which no instruction reaches with a bad index (R223). Safe. -/
  | invariantViolation (what : Contract)
deriving DecidableEq, Repr

/-- Reasons a step has no meaning in the model. -/
inductive Refusal where
  /-- Raised by an arm of exec whose instruction has no meaning yet; no arm is left so. Safe: the run stops. -/
  | notModelled (mnemonic : String)
deriving DecidableEq, Repr

/-- The byte array of R36, as the listed bytes that differ from Memory.unlisted, by rising address (Machine/Memory.lean). -/
abbrev Memory := List Host.Cell

/-- The whole state of one CPU instance (R20 to R36). -/
structure State where
  /-- MEM_SIZE and PAIR_ORDER, which no step changes (R8, R9). -/
  cfg : Config
  /-- Accumulator (R20). -/
  a : Byte
  /-- The flag register F (R25). -/
  f : Flags
  b : Byte
  c : Byte
  d : Byte
  e : Byte
  h : Byte
  l : Byte
  /-- SP, a standalone 16-bit register used as data only (R24, R34). -/
  sp : Word
  /-- PC, the address of the next opcode byte between steps (R24, R32). -/
  pc : Word
  /-- Program and data bytes, one address space (R36, R50). -/
  mem : Memory
deriving DecidableEq, Repr

/-- The machine right after construction (R250). The spec leaves every register and memory byte to INIT (R251, R252) and
gives no entry point (R253): the zeros are a DESIGN CHOICE (notes/assumptions/1.md, 4.md and 5.md, unsafe). Every other
INIT is a state too, and Machine/Construct.lean builds it. -/
def State.reset : State :=
  { cfg := Config.standard
    a := 0, f := { z := false, n := false, hf := false, cy := false }
    b := 0, c := 0, d := 0, e := 0, h := 0, l := 0
    sp := 0, pc := 0, mem := [] }

end Sys2Proof.Machine
end

