-- ==== Sys2Proof/Machine/Memory.lean ====
section
/-! DEFINITION. The memory as a canonical list of cells: addresses strictly rising, no cell equal to what an unlisted address
reads as. A write first takes every cell of its address out, so that reading back is right on any list at all. -/

namespace Sys2Proof.Machine

/-- What an address that is not listed reads as. The spec leaves the contents of memory after construction open (R252); the
byte 0x00 is a DESIGN CHOICE (notes/assumptions/4.md). Every memory contents is a list, so no contents is shut out. -/
def Memory.unlisted : Byte := 0x00#8

/-- The byte at an address (R60: the last value written, or the initial contents). -/
def Memory.read : Memory → Nat → Byte
  | [], _ => Memory.unlisted
  | cell :: rest, addr => if cell.1 = addr then cell.2 else Memory.read rest addr

/-- The memory with no cell at an address. -/
def Memory.erase (m : Memory) (addr : Nat) : Memory := m.filter (fun cell => cell.1 != addr)

/-- The memory with one more cell, before the first cell of a higher address. -/
def Memory.insert : Memory → Nat → Byte → Memory
  | [], addr, v => [(addr, v)]
  | cell :: rest, addr, v =>
    if addr < cell.1 then (addr, v) :: cell :: rest else cell :: Memory.insert rest addr v

/-- The memory after storing a byte (R60: a write changes only the addressed byte). -/
def Memory.write (m : Memory) (addr : Nat) (v : Byte) : Memory :=
  if v = Memory.unlisted then m.erase addr else (m.erase addr).insert addr v

/-- The canonical form. -/
def Memory.wf : Memory → Bool
  | [] => true
  | cell :: rest => cell.2 != Memory.unlisted && rest.all (fun next => decide (cell.1 < next.1)) && Memory.wf rest

end Sys2Proof.Machine
end

