-- ==== Sys2Proof/Machine/Ops.lean ====
section
/-! DEFINITION. The named operations over registers, flags and memory. Every read and write of a register goes through
these, so that a hardwired bit, a view of two cells and the end of memory are each decided in one place. Reporting a fault
is the one operation `raise`: the core saves nothing, switches no mode and jumps nowhere (R226, R229), and there is no
return from a fault (R230). -/

namespace Sys2Proof.Machine

/-! ### Flags and register F -/

/-- F as a byte: `F = {Z, N, Hf, Cy, 0, 0, 0, 0}` (R25). -/
def Flags.toByte (f : Flags) : Byte :=
  BitVec.ofBool f.z ++ BitVec.ofBool f.n ++ BitVec.ofBool f.hf ++ BitVec.ofBool f.cy ++ 0#4

/-- A write of F as a byte: bits 3:0 are discarded (R25). -/
def Flags.ofByte (v : Byte) : Flags :=
  { z := v.getLsbD 7, n := v.getLsbD 6, hf := v.getLsbD 5, cy := v.getLsbD 4 }

/-- The bit of F that holds a flag (R25). -/
def FlagName.index : FlagName → Nat
  | .z => 7 | .n => 6 | .hf => 5 | .cy => 4

/-- The flag accessor, read (R133). -/
def State.flag (s : State) : FlagName → Bool
  | .z => s.f.z | .n => s.f.n | .hf => s.f.hf | .cy => s.f.cy

/-- The flag accessor, write (R133): one bit of F, the others kept (R26). -/
def State.setFlag (s : State) (name : FlagName) (v : Bool) : State :=
  match name with
  | .z => { s with f := { s.f with z := v } }
  | .n => { s with f := { s.f with n := v } }
  | .hf => { s with f := { s.f with hf := v } }
  | .cy => { s with f := { s.f with cy := v } }

/-- The write of all four flags that an 8-bit arithmetic or logic instruction or a rotate makes (R27). -/
def State.setFlags (s : State) (z n hf cy : Bool) : State := { s with f := { z := z, n := n, hf := hf, cy := cy } }

/-- Report a fault to the driver (R226): no state comes with it, since a fault discards every write (R16, R142;
notes/assumptions/9.md). -/
def raise {α : Type} (fault : Fault) : Except Fault α := .error fault

/-- The register file's read of one bit; an index outside 0 to 7 breaks its contract (R133). -/
def bitGet (v : Byte) (index : Nat) : Except Fault Bool :=
  if index < 8 then .ok (v.getLsbD index) else raise (.invariantViolation .bitIndex)

/-- The register file's write of one bit; an index outside 0 to 7 breaks its contract (R133). -/
def bitSet (v : Byte) (index : Nat) (bit : Bool) : Except Fault Byte :=
  if index < 8 then
    .ok (if bit then v ||| BitVec.twoPow 8 index else v &&& ~~~ (BitVec.twoPow 8 index))
  else raise (.invariantViolation .bitIndex)

/-! ### 8-bit cells -/

/-- Read an 8-bit cell (R20); F reads with bits 3:0 zero (R25). -/
def State.getR8 (s : State) : Reg8 → Byte
  | .a => s.a | .f => s.f.toByte | .b => s.b | .c => s.c | .d => s.d | .e => s.e | .h => s.h | .l => s.l

/-- Write an 8-bit cell (R20); a write of F discards bits 3:0 (R25). -/
def State.setR8 (s : State) (r : Reg8) (v : Byte) : State :=
  match r with
  | .a => { s with a := v }
  | .f => { s with f := Flags.ofByte v }
  | .b => { s with b := v }
  | .c => { s with c := v }
  | .d => { s with d := v }
  | .e => { s with e := v }
  | .h => { s with h := v }
  | .l => { s with l := v }

/-! ### 16-bit views -/

/-- The first-named cell of a pair (R21). -/
def Pair.first : Pair → Reg8
  | .af => .a | .bc => .b | .de => .d | .hl => .h

/-- The second-named cell of a pair (R21). -/
def Pair.second : Pair → Reg8
  | .af => .f | .bc => .c | .de => .e | .hl => .l

/-- The cell that supplies the high byte of a pair under a pair order (R22). -/
def Pair.high (p : Pair) : PairOrder → Reg8
  | .highFirst => p.first
  | .lowFirst => p.second

/-- The cell that supplies the low byte of a pair under a pair order (R22). -/
def Pair.low (p : Pair) : PairOrder → Reg8
  | .highFirst => p.second
  | .lowFirst => p.first

/-- Read a pair view (R22). -/
def State.getPair (s : State) (p : Pair) : Word :=
  fromBytes (s.getR8 (p.low s.cfg.pairOrder)) (s.getR8 (p.high s.cfg.pairOrder))

/-- Write a pair view: both cells, each with its byte (R22); through AF, bits 3:0 of F are discarded (R23, R25). -/
def State.setPair (s : State) (p : Pair) (v : Word) : State :=
  (s.setR8 (p.high s.cfg.pairOrder) (msb v)).setR8 (p.low s.cfg.pairOrder) (lsb v)

/-- Read a 16-bit register (R14). -/
def State.getR16 (s : State) : Reg16 → Word
  | .pair p => s.getPair p
  | .sp => s.sp

/-- Write a 16-bit register (R14). -/
def State.setR16 (s : State) (r : Reg16) (v : Word) : State :=
  match r with
  | .pair p => s.setPair p v
  | .sp => { s with sp := v }

/-! ### Memory -/

/-- The byte memory holds at an address, without the bounds check: what memRead gives where it gives a value. -/
def State.byteAt (s : State) (addr : Word) : Byte := s.mem.read addr.toNat

/-- The address is one of the MEM_SIZE addresses memory has (R51). -/
abbrev State.inMemory (s : State) (addr : Word) : Prop := addr.toNat < s.cfg.memSize

/-- `MemRead(addr, 1)` (R52). -/
def memRead (s : State) (addr : Word) (kind : AccessKind) : Except Fault Byte :=
  if s.inMemory addr then .ok (s.byteAt addr) else raise (.memFault addr kind)

/-- The state with one byte stored, without the bounds check. -/
def State.storeByte (s : State) (addr : Word) (v : Byte) : State := { s with mem := s.mem.write addr.toNat v }

/-- `MemWrite(addr, 1, v)` (R53). -/
def memWrite (s : State) (addr : Word) (v : Byte) : Except Fault State :=
  if s.inMemory addr then .ok (s.storeByte addr v) else raise (.memFault addr .write)

/-! ### Commit -/

/-- The outcome of an instruction: all its writes together, or the fault and none of them (R16, R142). -/
def commit : Except Fault State → Host.Outcome State Fault Refusal
  | .ok s => .next s
  | .error fault => .fault fault

/-! ### Placing a program from outside (R240 "load") -/

/-- Put one byte of a program at an address. Where MEM_SIZE is too small to hold it, MEM_SIZE becomes large enough
(notes/assumptions/5.md). -/
def State.placeByte (s : State) (addr : Word) (v : Byte) : State :=
  { s.storeByte addr v with cfg := { s.cfg with memSize := max s.cfg.memSize (addr.toNat + 1) } }

/-- Put the bytes of a program at consecutive addresses, wrapping modulo 2^16 (R58). -/
def State.placeBytes (s : State) (addr : Word) : List Byte → State
  | [] => s
  | v :: rest => (s.placeByte addr v).placeBytes (addr + 1#16) rest

end Sys2Proof.Machine
end

