-- ==== Sys2Proof/Machine/Flags.lean ====
section
/-! DEFINITION. The arithmetic and logic helpers with their flag outputs (40_datapath.md R120 to R126) and the bit movement
of the rotates (R201 to R204). They are pure (R123): each instruction's own meaning says which outputs go into F. Sums are
taken on natural numbers and then narrowed (R13). -/

namespace Sys2Proof.Machine

/-- The four outputs of an 8-bit helper (R120, R121). -/
structure Alu8 where
  result : Byte
  zero   : Bool
  half   : Bool
  carry  : Bool
deriving DecidableEq, Repr

/-- The four outputs of the 16-bit adder (R122). -/
structure Alu16 where
  result : Word
  zero   : Bool
  half   : Bool
  carry  : Bool
deriving DecidableEq, Repr

/-- `Add8(a, b, cin)` (R120): half is the carry out of bit 3, carry the carry out of bit 7. -/
def add8 (a b : Byte) (cin : Bool) : Alu8 :=
  let sum := a.toNat + b.toNat + cin.toNat
  { result := BitVec.ofNat 8 sum
    zero := BitVec.ofNat 8 sum == 0#8
    half := decide (a.toNat % 16 + b.toNat % 16 + cin.toNat > 15)
    carry := decide (sum > 255) }

/-- `Sub8(a, b, cin)` (R121): half is the standard half-borrow, not truncated to four bits (C1, D13); b + cin of the carry
formula is not wrapped. -/
def sub8 (a b : Byte) (cin : Bool) : Alu8 :=
  let diff := a - b - BitVec.ofNat 8 cin.toNat
  { result := diff
    zero := diff == 0#8
    half := decide (a.toNat % 16 < b.toNat % 16 + cin.toNat)
    carry := decide (b.toNat + cin.toNat > a.toNat) }

/-- `Add16(a, b)` (R122): half is the carry out of bit 11 (C2), carry the carry out of bit 15. -/
def add16 (a b : Word) : Alu16 :=
  let sum := a.toNat + b.toNat
  { result := BitVec.ofNat 16 sum
    zero := BitVec.ofNat 16 sum == 0#16
    half := decide (a.toNat % 4096 + b.toNat % 4096 > 4095)
    carry := decide (sum > 65535) }

/-- `Inc8(v)`: Add8(v, 1, 0), its carry output not used (R124). -/
def inc8 (v : Byte) : Alu8 := add8 v 1#8 false

/-- `Dec8(v)`: Sub8(v, 1, 0), its borrow output not used (R125). -/
def dec8 (v : Byte) : Alu8 := sub8 v 1#8 false

/-- `Inc16(v)` (R126): wraps, no flags. -/
def inc16 (v : Word) : Word := v + 1#16

/-- `Dec16(v)` (R126): wraps, no flags. -/
def dec16 (v : Word) : Word := v - 1#16

/-- The new A and the bit shifted out of one rotate. -/
structure Rotated where
  result : Byte
  out    : Bool
deriving DecidableEq, Repr

/-- RLCA: `{A[6:0], A[7]}` (R201); the old Cy is not read. -/
def rlc (a : Byte) (_cy : Bool) : Rotated :=
  { result := a.extractLsb' 0 7 ++ BitVec.ofBool (a.getLsbD 7), out := a.getLsbD 7 }

/-- RLA: `{A[6:0], Cy}` (R202). -/
def rl (a : Byte) (cy : Bool) : Rotated :=
  { result := a.extractLsb' 0 7 ++ BitVec.ofBool cy, out := a.getLsbD 7 }

/-- RRCA: `{A[0], A[7:1]}` (R203); the old Cy is not read. -/
def rrc (a : Byte) (_cy : Bool) : Rotated :=
  { result := BitVec.ofBool (a.getLsbD 0) ++ a.extractLsb' 1 7, out := a.getLsbD 0 }

/-- RRA: `{Cy, A[7:1]}` (R204). -/
def rr (a : Byte) (cy : Bool) : Rotated :=
  { result := BitVec.ofBool cy ++ a.extractLsb' 1 7, out := a.getLsbD 0 }

end Sys2Proof.Machine
end

