-- ==== Sys2Proof/Machine/Operands.lean ====
section
/-! DEFINITION. The operand multiplexer ByteSource (40_datapath.md R127 to R131): one set of operations over a register or
the byte a pair points at, so that an instruction is written once for both. -/

namespace Sys2Proof.Machine

/-- What a memory-indirect source does to its pointer after the access (R131). -/
inductive Post where
  | keep
  | inc
  | dec
deriving DecidableEq, Repr

/-- An 8-bit operand (R127). -/
inductive ByteSource where
  /-- register-direct (R128) -/
  | reg (r : Reg8)
  /-- memory-indirect through a pair (R129), with its post-modification (R131) -/
  | ind (p : Pair) (post : Post)
deriving DecidableEq, Repr

/-- `Get()` (R128, R129). -/
def ByteSource.get (src : ByteSource) (s : State) : Except Fault Byte :=
  match src with
  | .reg r => .ok (s.getR8 r)
  | .ind p _ => memRead s (s.getPair p) .read

/-- `Set(v)` (R128, R129). -/
def ByteSource.set (dst : ByteSource) (v : Byte) (s : State) : Except Fault State :=
  match dst with
  | .reg r => .ok (s.setR8 r v)
  | .ind p _ => memWrite s (s.getPair p) v

/-- The post-increment or post-decrement of the pointer, after the access, with no flag effect (R131). -/
def ByteSource.afterAccess (src : ByteSource) (s : State) : State :=
  match src with
  | .reg _ | .ind _ .keep => s
  | .ind p .inc => s.setPair p (inc16 (s.getPair p))
  | .ind p .dec => s.setPair p (dec16 (s.getPair p))

/-- The address of the operand's byte, if it is in memory (R129). -/
def ByteSource.address (src : ByteSource) (s : State) : Option Word :=
  match src with
  | .reg _ => none
  | .ind p _ => some (s.getPair p)

/-- The cycles a Get or a Set adds (R128, R129). -/
def ByteSource.accessCycles : ByteSource → Nat
  | .reg _ => 0
  | .ind _ _ => 4

/-- The cycles an Inc or a Dec adds (R128, R130). -/
def ByteSource.modifyCycles : ByteSource → Nat
  | .reg _ => 0
  | .ind _ _ => 8

end Sys2Proof.Machine
end

