-- ==== Sys2Proof/Machine/Alu8.lean ====
section
/-! DEFINITION. 8-bit arithmetic and logic (43_alu8.md R190 to R198): one shared operation per operation field and one meaning
per instruction. The operand is read first and the old A is an input (R198); each instruction writes all four flags. -/

namespace Sys2Proof.Machine

/-- Read the operand, then compute (R198). -/
def withOperand (src : ByteSource) (s : State) (f : Byte → State) : Host.Outcome State Fault Refusal :=
  commit (do
    let v ← src.get s
    .ok (f v))

/-- A and the four flags from a helper's outputs, with the N flag of the operation. -/
def State.setAFlags (s : State) (r : Alu8) (n : Bool) : State :=
  (s.setR8 .a r.result).setFlags r.zero n r.half r.carry

/-- A and the four flags of a logic operation: Z from the result, N = 0, Cy = 0, Hf as given (R194 to R196). -/
def State.setALogic (s : State) (result : Byte) (hf : Bool) : State :=
  (s.setR8 .a result).setFlags (result == 0#8) false hf false

/-- ADD A,s (R190). -/
def aluAdd (src : ByteSource) (s : State) : Host.Outcome State Fault Refusal :=
  withOperand src s (fun v => s.setAFlags (add8 s.a v false) false)

/-- ADC A,s: the carry in is the old Cy (R191, D23; notes/assumptions/11.md). -/
def aluAdc (src : ByteSource) (s : State) : Host.Outcome State Fault Refusal :=
  withOperand src s (fun v => s.setAFlags (add8 s.a v s.f.cy) false)

/-- SUB A,s (R192). -/
def aluSub (src : ByteSource) (s : State) : Host.Outcome State Fault Refusal :=
  withOperand src s (fun v => s.setAFlags (sub8 s.a v false) true)

/-- SBC A,s: the borrow in is the old Cy (R193, D23; notes/assumptions/11.md). -/
def aluSbc (src : ByteSource) (s : State) : Host.Outcome State Fault Refusal :=
  withOperand src s (fun v => s.setAFlags (sub8 s.a v s.f.cy) true)

/-- AND s: Hf = 1 (R194). -/
def aluAnd (src : ByteSource) (s : State) : Host.Outcome State Fault Refusal :=
  withOperand src s (fun v => s.setALogic (s.a &&& v) true)

/-- XOR s (R195). -/
def aluXor (src : ByteSource) (s : State) : Host.Outcome State Fault Refusal :=
  withOperand src s (fun v => s.setALogic (s.a ^^^ v) false)

/-- OR s (R196). -/
def aluOr (src : ByteSource) (s : State) : Host.Outcome State Fault Refusal :=
  withOperand src s (fun v => s.setALogic (s.a ||| v) false)

/-- CP s: the flags of the subtraction, N = 1 (C3, D12), A not written (R197). -/
def aluCp (src : ByteSource) (s : State) : Host.Outcome State Fault Refusal :=
  withOperand src s (fun v =>
    s.setFlags (sub8 s.a v false).zero true (sub8 s.a v false).half (sub8 s.a v false).carry)

/-- `ADD A,B` (R190). -/
def execAddA_B (s : State) : Host.Outcome State Fault Refusal := aluAdd (.reg .b) s

/-- `ADD A,C` (R190). -/
def execAddA_C (s : State) : Host.Outcome State Fault Refusal := aluAdd (.reg .c) s

/-- `ADD A,D` (R190). -/
def execAddA_D (s : State) : Host.Outcome State Fault Refusal := aluAdd (.reg .d) s

/-- `ADD A,E` (R190). -/
def execAddA_E (s : State) : Host.Outcome State Fault Refusal := aluAdd (.reg .e) s

/-- `ADD A,H` (R190). -/
def execAddA_H (s : State) : Host.Outcome State Fault Refusal := aluAdd (.reg .h) s

/-- `ADD A,L` (R190). -/
def execAddA_L (s : State) : Host.Outcome State Fault Refusal := aluAdd (.reg .l) s

/-- `ADD A,(HL)` (R190). -/
def execAddA_IndHL (s : State) : Host.Outcome State Fault Refusal := aluAdd (.ind .hl .keep) s

/-- `ADD A,A` (R190). -/
def execAddA_A (s : State) : Host.Outcome State Fault Refusal := aluAdd (.reg .a) s

/-- `ADC A,B` (R191). -/
def execAdcA_B (s : State) : Host.Outcome State Fault Refusal := aluAdc (.reg .b) s

/-- `ADC A,C` (R191). -/
def execAdcA_C (s : State) : Host.Outcome State Fault Refusal := aluAdc (.reg .c) s

/-- `ADC A,D` (R191). -/
def execAdcA_D (s : State) : Host.Outcome State Fault Refusal := aluAdc (.reg .d) s

/-- `ADC A,E` (R191). -/
def execAdcA_E (s : State) : Host.Outcome State Fault Refusal := aluAdc (.reg .e) s

/-- `ADC A,H` (R191). -/
def execAdcA_H (s : State) : Host.Outcome State Fault Refusal := aluAdc (.reg .h) s

/-- `ADC A,L` (R191). -/
def execAdcA_L (s : State) : Host.Outcome State Fault Refusal := aluAdc (.reg .l) s

/-- `ADC A,(HL)` (R191). -/
def execAdcA_IndHL (s : State) : Host.Outcome State Fault Refusal := aluAdc (.ind .hl .keep) s

/-- `ADC A,A` (R191). -/
def execAdcA_A (s : State) : Host.Outcome State Fault Refusal := aluAdc (.reg .a) s

/-- `SUB A,B` (R192). -/
def execSubA_B (s : State) : Host.Outcome State Fault Refusal := aluSub (.reg .b) s

/-- `SUB A,C` (R192). -/
def execSubA_C (s : State) : Host.Outcome State Fault Refusal := aluSub (.reg .c) s

/-- `SUB A,D` (R192). -/
def execSubA_D (s : State) : Host.Outcome State Fault Refusal := aluSub (.reg .d) s

/-- `SUB A,E` (R192). -/
def execSubA_E (s : State) : Host.Outcome State Fault Refusal := aluSub (.reg .e) s

/-- `SUB A,H` (R192). -/
def execSubA_H (s : State) : Host.Outcome State Fault Refusal := aluSub (.reg .h) s

/-- `SUB A,L` (R192). -/
def execSubA_L (s : State) : Host.Outcome State Fault Refusal := aluSub (.reg .l) s

/-- `SUB A,(HL)` (R192). -/
def execSubA_IndHL (s : State) : Host.Outcome State Fault Refusal := aluSub (.ind .hl .keep) s

/-- `SUB A,A` (R192). -/
def execSubA_A (s : State) : Host.Outcome State Fault Refusal := aluSub (.reg .a) s

/-- `SBC A,B` (R193). -/
def execSbcA_B (s : State) : Host.Outcome State Fault Refusal := aluSbc (.reg .b) s

/-- `SBC A,C` (R193). -/
def execSbcA_C (s : State) : Host.Outcome State Fault Refusal := aluSbc (.reg .c) s

/-- `SBC A,D` (R193). -/
def execSbcA_D (s : State) : Host.Outcome State Fault Refusal := aluSbc (.reg .d) s

/-- `SBC A,E` (R193). -/
def execSbcA_E (s : State) : Host.Outcome State Fault Refusal := aluSbc (.reg .e) s

/-- `SBC A,H` (R193). -/
def execSbcA_H (s : State) : Host.Outcome State Fault Refusal := aluSbc (.reg .h) s

/-- `SBC A,L` (R193). -/
def execSbcA_L (s : State) : Host.Outcome State Fault Refusal := aluSbc (.reg .l) s

/-- `SBC A,(HL)` (R193). -/
def execSbcA_IndHL (s : State) : Host.Outcome State Fault Refusal := aluSbc (.ind .hl .keep) s

/-- `SBC A,A` (R193). -/
def execSbcA_A (s : State) : Host.Outcome State Fault Refusal := aluSbc (.reg .a) s

/-- `AND B` (R194). -/
def execAndB (s : State) : Host.Outcome State Fault Refusal := aluAnd (.reg .b) s

/-- `AND C` (R194). -/
def execAndC (s : State) : Host.Outcome State Fault Refusal := aluAnd (.reg .c) s

/-- `AND D` (R194). -/
def execAndD (s : State) : Host.Outcome State Fault Refusal := aluAnd (.reg .d) s

/-- `AND E` (R194). -/
def execAndE (s : State) : Host.Outcome State Fault Refusal := aluAnd (.reg .e) s

/-- `AND H` (R194). -/
def execAndH (s : State) : Host.Outcome State Fault Refusal := aluAnd (.reg .h) s

/-- `AND L` (R194). -/
def execAndL (s : State) : Host.Outcome State Fault Refusal := aluAnd (.reg .l) s

/-- `AND (HL)` (R194). -/
def execAndIndHL (s : State) : Host.Outcome State Fault Refusal := aluAnd (.ind .hl .keep) s

/-- `AND A` (R194). -/
def execAndA (s : State) : Host.Outcome State Fault Refusal := aluAnd (.reg .a) s

/-- `XOR B` (R195). -/
def execXorB (s : State) : Host.Outcome State Fault Refusal := aluXor (.reg .b) s

/-- `XOR C` (R195). -/
def execXorC (s : State) : Host.Outcome State Fault Refusal := aluXor (.reg .c) s

/-- `XOR D` (R195). -/
def execXorD (s : State) : Host.Outcome State Fault Refusal := aluXor (.reg .d) s

/-- `XOR E` (R195). -/
def execXorE (s : State) : Host.Outcome State Fault Refusal := aluXor (.reg .e) s

/-- `XOR H` (R195). -/
def execXorH (s : State) : Host.Outcome State Fault Refusal := aluXor (.reg .h) s

/-- `XOR L` (R195). -/
def execXorL (s : State) : Host.Outcome State Fault Refusal := aluXor (.reg .l) s

/-- `XOR (HL)` (R195). -/
def execXorIndHL (s : State) : Host.Outcome State Fault Refusal := aluXor (.ind .hl .keep) s

/-- `XOR A` (R195). -/
def execXorA (s : State) : Host.Outcome State Fault Refusal := aluXor (.reg .a) s

/-- `OR B` (R196). -/
def execOrB (s : State) : Host.Outcome State Fault Refusal := aluOr (.reg .b) s

/-- `OR C` (R196). -/
def execOrC (s : State) : Host.Outcome State Fault Refusal := aluOr (.reg .c) s

/-- `OR D` (R196). -/
def execOrD (s : State) : Host.Outcome State Fault Refusal := aluOr (.reg .d) s

/-- `OR E` (R196). -/
def execOrE (s : State) : Host.Outcome State Fault Refusal := aluOr (.reg .e) s

/-- `OR H` (R196). -/
def execOrH (s : State) : Host.Outcome State Fault Refusal := aluOr (.reg .h) s

/-- `OR L` (R196). -/
def execOrL (s : State) : Host.Outcome State Fault Refusal := aluOr (.reg .l) s

/-- `OR (HL)` (R196). -/
def execOrIndHL (s : State) : Host.Outcome State Fault Refusal := aluOr (.ind .hl .keep) s

/-- `OR A` (R196). -/
def execOrA (s : State) : Host.Outcome State Fault Refusal := aluOr (.reg .a) s

/-- `CP B` (R197). -/
def execCpB (s : State) : Host.Outcome State Fault Refusal := aluCp (.reg .b) s

/-- `CP C` (R197). -/
def execCpC (s : State) : Host.Outcome State Fault Refusal := aluCp (.reg .c) s

/-- `CP D` (R197). -/
def execCpD (s : State) : Host.Outcome State Fault Refusal := aluCp (.reg .d) s

/-- `CP E` (R197). -/
def execCpE (s : State) : Host.Outcome State Fault Refusal := aluCp (.reg .e) s

/-- `CP H` (R197). -/
def execCpH (s : State) : Host.Outcome State Fault Refusal := aluCp (.reg .h) s

/-- `CP L` (R197). -/
def execCpL (s : State) : Host.Outcome State Fault Refusal := aluCp (.reg .l) s

/-- `CP (HL)` (R197). -/
def execCpIndHL (s : State) : Host.Outcome State Fault Refusal := aluCp (.ind .hl .keep) s

/-- `CP A` (R197). -/
def execCpA (s : State) : Host.Outcome State Fault Refusal := aluCp (.reg .a) s

end Sys2Proof.Machine
end

