-- ==== Sys2Proof/Machine/IncDec.lean ====
section
/-! DEFINITION. Increment and decrement (42_inc_dec.md R180 to R185): four shared operations and one meaning per instruction. -/

namespace Sys2Proof.Machine

/-- `R16[p] <- Inc16(R16[p])`, no flags (R180). -/
def incReg16 (r : Reg16) (s : State) : Host.Outcome State Fault Refusal :=
  .next (s.setR16 r (inc16 (s.getR16 r)))

/-- `R16[p] <- Dec16(R16[p])`, no flags (R181). -/
def decReg16 (r : Reg16) (s : State) : Host.Outcome State Fault Refusal :=
  .next (s.setR16 r (dec16 (s.getR16 r)))

/-- The flags of an 8-bit increment or decrement: Z, N and Hf from the helper's outputs, Cy not written (R182 to R185). -/
def State.setIncDecFlags (s : State) (r : Alu8) (n : Bool) : State :=
  s.setFlags r.zero n r.half s.f.cy

/-- INC of a register or of the byte at HL, through one helper (R124, R128, R130, R182, R183): N = 0. -/
def incOperand (operand : ByteSource) (s : State) : Host.Outcome State Fault Refusal :=
  commit (do
    let v ← operand.get s
    let t ← operand.set (inc8 v).result s
    .ok ((operand.afterAccess t).setIncDecFlags (inc8 v) false))

/-- DEC of a register or of the byte at HL, through one helper (R125, R128, R130, R184, R185): N = 1. -/
def decOperand (operand : ByteSource) (s : State) : Host.Outcome State Fault Refusal :=
  commit (do
    let v ← operand.get s
    let t ← operand.set (dec8 v).result s
    .ok ((operand.afterAccess t).setIncDecFlags (dec8 v) true))

/-- `INC BC` (R180). -/
def execIncBC (s : State) : Host.Outcome State Fault Refusal := incReg16 (.pair .bc) s

/-- `INC B` (R182). -/
def execIncB (s : State) : Host.Outcome State Fault Refusal := incOperand (.reg .b) s

/-- `DEC B` (R184). -/
def execDecB (s : State) : Host.Outcome State Fault Refusal := decOperand (.reg .b) s

/-- `DEC BC` (R181). -/
def execDecBC (s : State) : Host.Outcome State Fault Refusal := decReg16 (.pair .bc) s

/-- `INC C` (R182). -/
def execIncC (s : State) : Host.Outcome State Fault Refusal := incOperand (.reg .c) s

/-- `DEC C` (R184). -/
def execDecC (s : State) : Host.Outcome State Fault Refusal := decOperand (.reg .c) s

/-- `INC DE` (R180). -/
def execIncDE (s : State) : Host.Outcome State Fault Refusal := incReg16 (.pair .de) s

/-- `INC D` (R182). -/
def execIncD (s : State) : Host.Outcome State Fault Refusal := incOperand (.reg .d) s

/-- `DEC D` (R184). -/
def execDecD (s : State) : Host.Outcome State Fault Refusal := decOperand (.reg .d) s

/-- `DEC DE` (R181). -/
def execDecDE (s : State) : Host.Outcome State Fault Refusal := decReg16 (.pair .de) s

/-- `INC E` (R182). -/
def execIncE (s : State) : Host.Outcome State Fault Refusal := incOperand (.reg .e) s

/-- `DEC E` (R184). -/
def execDecE (s : State) : Host.Outcome State Fault Refusal := decOperand (.reg .e) s

/-- `INC HL` (R180). -/
def execIncHL (s : State) : Host.Outcome State Fault Refusal := incReg16 (.pair .hl) s

/-- `INC H` (R182). -/
def execIncH (s : State) : Host.Outcome State Fault Refusal := incOperand (.reg .h) s

/-- `DEC H` (R184). -/
def execDecH (s : State) : Host.Outcome State Fault Refusal := decOperand (.reg .h) s

/-- `DEC HL` (R181). -/
def execDecHL (s : State) : Host.Outcome State Fault Refusal := decReg16 (.pair .hl) s

/-- `INC L` (R182). -/
def execIncL (s : State) : Host.Outcome State Fault Refusal := incOperand (.reg .l) s

/-- `DEC L` (R184). -/
def execDecL (s : State) : Host.Outcome State Fault Refusal := decOperand (.reg .l) s

/-- `INC SP` (R180). -/
def execIncSP (s : State) : Host.Outcome State Fault Refusal := incReg16 .sp s

/-- `INC (HL)` (R183). -/
def execIncIndHL (s : State) : Host.Outcome State Fault Refusal := incOperand (.ind .hl .keep) s

/-- `DEC (HL)` (R185). -/
def execDecIndHL (s : State) : Host.Outcome State Fault Refusal := decOperand (.ind .hl .keep) s

/-- `DEC SP` (R181). -/
def execDecSP (s : State) : Host.Outcome State Fault Refusal := decReg16 .sp s

/-- `INC A` (R182). -/
def execIncA (s : State) : Host.Outcome State Fault Refusal := incOperand (.reg .a) s

/-- `DEC A` (R184). -/
def execDecA (s : State) : Host.Outcome State Fault Refusal := decOperand (.reg .a) s

end Sys2Proof.Machine
end

