-- ==== Sys2Proof/Syntax.lean ====
section
/-! DEFINITION. The syntax of the machine: one constructor per row of spec/opcode_table.json, in the table's order (the map of
30_encoding.md R88). A constructor is named after its row: the operation, then its operands, destination first (R99);
`IndHL` stands for (HL), `IndHLInc` for (HL+), `IndHLDec` for (HL-), `Imm` for the immediate d8 or d16, which the
constructor carries. -/

namespace Sys2Proof

/-- The 180 instructions (R2, R88). -/
inductive Instr where
  /-- `NOP`, 0x00 (R205) -/
  | nop
  /-- `LD BC,d16`, 0x01 (R173) -/
  | ldBC_Imm (n : Word)
  /-- `LD (BC),A`, 0x02 (R165) -/
  | ldIndBC_A
  /-- `INC BC`, 0x03 (R180) -/
  | incBC
  /-- `INC B`, 0x04 (R182) -/
  | incB
  /-- `DEC B`, 0x05 (R184) -/
  | decB
  /-- `LD B,d8`, 0x06 (R163) -/
  | ldB_Imm (n : Byte)
  /-- `RLCA`, 0x07 (R201) -/
  | rlca
  /-- `ADD HL,BC`, 0x09 (R200) -/
  | addHL_BC
  /-- `LD A,(BC)`, 0x0A (R167) -/
  | ldA_IndBC
  /-- `DEC BC`, 0x0B (R181) -/
  | decBC
  /-- `INC C`, 0x0C (R182) -/
  | incC
  /-- `DEC C`, 0x0D (R184) -/
  | decC
  /-- `LD C,d8`, 0x0E (R163) -/
  | ldC_Imm (n : Byte)
  /-- `RRCA`, 0x0F (R203) -/
  | rrca
  /-- `LD DE,d16`, 0x11 (R173) -/
  | ldDE_Imm (n : Word)
  /-- `LD (DE),A`, 0x12 (R166) -/
  | ldIndDE_A
  /-- `INC DE`, 0x13 (R180) -/
  | incDE
  /-- `INC D`, 0x14 (R182) -/
  | incD
  /-- `DEC D`, 0x15 (R184) -/
  | decD
  /-- `LD D,d8`, 0x16 (R163) -/
  | ldD_Imm (n : Byte)
  /-- `RLA`, 0x17 (R202) -/
  | rla
  /-- `ADD HL,DE`, 0x19 (R200) -/
  | addHL_DE
  /-- `LD A,(DE)`, 0x1A (R168) -/
  | ldA_IndDE
  /-- `DEC DE`, 0x1B (R181) -/
  | decDE
  /-- `INC E`, 0x1C (R182) -/
  | incE
  /-- `DEC E`, 0x1D (R184) -/
  | decE
  /-- `LD E,d8`, 0x1E (R163) -/
  | ldE_Imm (n : Byte)
  /-- `RRA`, 0x1F (R204) -/
  | rra
  /-- `LD HL,d16`, 0x21 (R173) -/
  | ldHL_Imm (n : Word)
  /-- `LD (HL+),A`, 0x22 (R169) -/
  | ldIndHLInc_A
  /-- `INC HL`, 0x23 (R180) -/
  | incHL
  /-- `INC H`, 0x24 (R182) -/
  | incH
  /-- `DEC H`, 0x25 (R184) -/
  | decH
  /-- `LD H,d8`, 0x26 (R163) -/
  | ldH_Imm (n : Byte)
  /-- `ADD HL,HL`, 0x29 (R200) -/
  | addHL_HL
  /-- `LD A,(HL+)`, 0x2A (R171) -/
  | ldA_IndHLInc
  /-- `DEC HL`, 0x2B (R181) -/
  | decHL
  /-- `INC L`, 0x2C (R182) -/
  | incL
  /-- `DEC L`, 0x2D (R184) -/
  | decL
  /-- `LD L,d8`, 0x2E (R163) -/
  | ldL_Imm (n : Byte)
  /-- `LD SP,d16`, 0x31 (R173) -/
  | ldSP_Imm (n : Word)
  /-- `LD (HL-),A`, 0x32 (R170) -/
  | ldIndHLDec_A
  /-- `INC SP`, 0x33 (R180) -/
  | incSP
  /-- `INC (HL)`, 0x34 (R183) -/
  | incIndHL
  /-- `DEC (HL)`, 0x35 (R185) -/
  | decIndHL
  /-- `LD (HL),d8`, 0x36 (R164) -/
  | ldIndHL_Imm (n : Byte)
  /-- `ADD HL,SP`, 0x39 (R200) -/
  | addHL_SP
  /-- `LD A,(HL-)`, 0x3A (R172) -/
  | ldA_IndHLDec
  /-- `DEC SP`, 0x3B (R181) -/
  | decSP
  /-- `INC A`, 0x3C (R182) -/
  | incA
  /-- `DEC A`, 0x3D (R184) -/
  | decA
  /-- `LD A,d8`, 0x3E (R163) -/
  | ldA_Imm (n : Byte)
  /-- `LD B,B`, 0x40 (R160) -/
  | ldB_B
  /-- `LD B,C`, 0x41 (R160) -/
  | ldB_C
  /-- `LD B,D`, 0x42 (R160) -/
  | ldB_D
  /-- `LD B,E`, 0x43 (R160) -/
  | ldB_E
  /-- `LD B,H`, 0x44 (R160) -/
  | ldB_H
  /-- `LD B,L`, 0x45 (R160) -/
  | ldB_L
  /-- `LD B,(HL)`, 0x46 (R161) -/
  | ldB_IndHL
  /-- `LD B,A`, 0x47 (R160) -/
  | ldB_A
  /-- `LD C,B`, 0x48 (R160) -/
  | ldC_B
  /-- `LD C,C`, 0x49 (R160) -/
  | ldC_C
  /-- `LD C,D`, 0x4A (R160) -/
  | ldC_D
  /-- `LD C,E`, 0x4B (R160) -/
  | ldC_E
  /-- `LD C,H`, 0x4C (R160) -/
  | ldC_H
  /-- `LD C,L`, 0x4D (R160) -/
  | ldC_L
  /-- `LD C,(HL)`, 0x4E (R161) -/
  | ldC_IndHL
  /-- `LD C,A`, 0x4F (R160) -/
  | ldC_A
  /-- `LD D,B`, 0x50 (R160) -/
  | ldD_B
  /-- `LD D,C`, 0x51 (R160) -/
  | ldD_C
  /-- `LD D,D`, 0x52 (R160) -/
  | ldD_D
  /-- `LD D,E`, 0x53 (R160) -/
  | ldD_E
  /-- `LD D,H`, 0x54 (R160) -/
  | ldD_H
  /-- `LD D,L`, 0x55 (R160) -/
  | ldD_L
  /-- `LD D,(HL)`, 0x56 (R161) -/
  | ldD_IndHL
  /-- `LD D,A`, 0x57 (R160) -/
  | ldD_A
  /-- `LD E,B`, 0x58 (R160) -/
  | ldE_B
  /-- `LD E,C`, 0x59 (R160) -/
  | ldE_C
  /-- `LD E,D`, 0x5A (R160) -/
  | ldE_D
  /-- `LD E,E`, 0x5B (R160) -/
  | ldE_E
  /-- `LD E,H`, 0x5C (R160) -/
  | ldE_H
  /-- `LD E,L`, 0x5D (R160) -/
  | ldE_L
  /-- `LD E,(HL)`, 0x5E (R161) -/
  | ldE_IndHL
  /-- `LD E,A`, 0x5F (R160) -/
  | ldE_A
  /-- `LD H,B`, 0x60 (R160) -/
  | ldH_B
  /-- `LD H,C`, 0x61 (R160) -/
  | ldH_C
  /-- `LD H,D`, 0x62 (R160) -/
  | ldH_D
  /-- `LD H,E`, 0x63 (R160) -/
  | ldH_E
  /-- `LD H,H`, 0x64 (R160) -/
  | ldH_H
  /-- `LD H,L`, 0x65 (R160) -/
  | ldH_L
  /-- `LD H,(HL)`, 0x66 (R161) -/
  | ldH_IndHL
  /-- `LD H,A`, 0x67 (R160) -/
  | ldH_A
  /-- `LD L,B`, 0x68 (R160) -/
  | ldL_B
  /-- `LD L,C`, 0x69 (R160) -/
  | ldL_C
  /-- `LD L,D`, 0x6A (R160) -/
  | ldL_D
  /-- `LD L,E`, 0x6B (R160) -/
  | ldL_E
  /-- `LD L,H`, 0x6C (R160) -/
  | ldL_H
  /-- `LD L,L`, 0x6D (R160) -/
  | ldL_L
  /-- `LD L,(HL)`, 0x6E (R161) -/
  | ldL_IndHL
  /-- `LD L,A`, 0x6F (R160) -/
  | ldL_A
  /-- `LD (HL),B`, 0x70 (R162) -/
  | ldIndHL_B
  /-- `LD (HL),C`, 0x71 (R162) -/
  | ldIndHL_C
  /-- `LD (HL),D`, 0x72 (R162) -/
  | ldIndHL_D
  /-- `LD (HL),E`, 0x73 (R162) -/
  | ldIndHL_E
  /-- `LD (HL),H`, 0x74 (R162) -/
  | ldIndHL_H
  /-- `LD (HL),L`, 0x75 (R162) -/
  | ldIndHL_L
  /-- `LD (HL),A`, 0x77 (R162) -/
  | ldIndHL_A
  /-- `LD A,B`, 0x78 (R160) -/
  | ldA_B
  /-- `LD A,C`, 0x79 (R160) -/
  | ldA_C
  /-- `LD A,D`, 0x7A (R160) -/
  | ldA_D
  /-- `LD A,E`, 0x7B (R160) -/
  | ldA_E
  /-- `LD A,H`, 0x7C (R160) -/
  | ldA_H
  /-- `LD A,L`, 0x7D (R160) -/
  | ldA_L
  /-- `LD A,(HL)`, 0x7E (R161) -/
  | ldA_IndHL
  /-- `LD A,A`, 0x7F (R160) -/
  | ldA_A
  /-- `ADD A,B`, 0x80 (R190) -/
  | addA_B
  /-- `ADD A,C`, 0x81 (R190) -/
  | addA_C
  /-- `ADD A,D`, 0x82 (R190) -/
  | addA_D
  /-- `ADD A,E`, 0x83 (R190) -/
  | addA_E
  /-- `ADD A,H`, 0x84 (R190) -/
  | addA_H
  /-- `ADD A,L`, 0x85 (R190) -/
  | addA_L
  /-- `ADD A,(HL)`, 0x86 (R190) -/
  | addA_IndHL
  /-- `ADD A,A`, 0x87 (R190) -/
  | addA_A
  /-- `ADC A,B`, 0x88 (R191) -/
  | adcA_B
  /-- `ADC A,C`, 0x89 (R191) -/
  | adcA_C
  /-- `ADC A,D`, 0x8A (R191) -/
  | adcA_D
  /-- `ADC A,E`, 0x8B (R191) -/
  | adcA_E
  /-- `ADC A,H`, 0x8C (R191) -/
  | adcA_H
  /-- `ADC A,L`, 0x8D (R191) -/
  | adcA_L
  /-- `ADC A,(HL)`, 0x8E (R191) -/
  | adcA_IndHL
  /-- `ADC A,A`, 0x8F (R191) -/
  | adcA_A
  /-- `SUB A,B`, 0x90 (R192) -/
  | subA_B
  /-- `SUB A,C`, 0x91 (R192) -/
  | subA_C
  /-- `SUB A,D`, 0x92 (R192) -/
  | subA_D
  /-- `SUB A,E`, 0x93 (R192) -/
  | subA_E
  /-- `SUB A,H`, 0x94 (R192) -/
  | subA_H
  /-- `SUB A,L`, 0x95 (R192) -/
  | subA_L
  /-- `SUB A,(HL)`, 0x96 (R192) -/
  | subA_IndHL
  /-- `SUB A,A`, 0x97 (R192) -/
  | subA_A
  /-- `SBC A,B`, 0x98 (R193) -/
  | sbcA_B
  /-- `SBC A,C`, 0x99 (R193) -/
  | sbcA_C
  /-- `SBC A,D`, 0x9A (R193) -/
  | sbcA_D
  /-- `SBC A,E`, 0x9B (R193) -/
  | sbcA_E
  /-- `SBC A,H`, 0x9C (R193) -/
  | sbcA_H
  /-- `SBC A,L`, 0x9D (R193) -/
  | sbcA_L
  /-- `SBC A,(HL)`, 0x9E (R193) -/
  | sbcA_IndHL
  /-- `SBC A,A`, 0x9F (R193) -/
  | sbcA_A
  /-- `AND B`, 0xA0 (R194) -/
  | andB
  /-- `AND C`, 0xA1 (R194) -/
  | andC
  /-- `AND D`, 0xA2 (R194) -/
  | andD
  /-- `AND E`, 0xA3 (R194) -/
  | andE
  /-- `AND H`, 0xA4 (R194) -/
  | andH
  /-- `AND L`, 0xA5 (R194) -/
  | andL
  /-- `AND (HL)`, 0xA6 (R194) -/
  | andIndHL
  /-- `AND A`, 0xA7 (R194) -/
  | andA
  /-- `XOR B`, 0xA8 (R195) -/
  | xorB
  /-- `XOR C`, 0xA9 (R195) -/
  | xorC
  /-- `XOR D`, 0xAA (R195) -/
  | xorD
  /-- `XOR E`, 0xAB (R195) -/
  | xorE
  /-- `XOR H`, 0xAC (R195) -/
  | xorH
  /-- `XOR L`, 0xAD (R195) -/
  | xorL
  /-- `XOR (HL)`, 0xAE (R195) -/
  | xorIndHL
  /-- `XOR A`, 0xAF (R195) -/
  | xorA
  /-- `OR B`, 0xB0 (R196) -/
  | orB
  /-- `OR C`, 0xB1 (R196) -/
  | orC
  /-- `OR D`, 0xB2 (R196) -/
  | orD
  /-- `OR E`, 0xB3 (R196) -/
  | orE
  /-- `OR H`, 0xB4 (R196) -/
  | orH
  /-- `OR L`, 0xB5 (R196) -/
  | orL
  /-- `OR (HL)`, 0xB6 (R196) -/
  | orIndHL
  /-- `OR A`, 0xB7 (R196) -/
  | orA
  /-- `CP B`, 0xB8 (R197) -/
  | cpB
  /-- `CP C`, 0xB9 (R197) -/
  | cpC
  /-- `CP D`, 0xBA (R197) -/
  | cpD
  /-- `CP E`, 0xBB (R197) -/
  | cpE
  /-- `CP H`, 0xBC (R197) -/
  | cpH
  /-- `CP L`, 0xBD (R197) -/
  | cpL
  /-- `CP (HL)`, 0xBE (R197) -/
  | cpIndHL
  /-- `CP A`, 0xBF (R197) -/
  | cpA
deriving DecidableEq, Repr

end Sys2Proof
end

