-- ==== Sys2Proof/Machine/Loads.lean ====
section
/-! DEFINITION. The loads (41_loads.md R160 to R173): three shared operations and one meaning per instruction. No load
writes a flag (R27). Pair views depend on PAIR_ORDER through getPair and setPair only (R22). -/

namespace Sys2Proof.Machine

/-- Destination from source: the read, then the write, then the post-modification of a pointer (R160 to R162, R165 to
R172). Every write takes effect at the end, so a fault leaves nothing written (R142). -/
def load8 (dst src : ByteSource) (s : State) : Host.Outcome State Fault Refusal :=
  commit (do
    let v ← src.get s
    let t ← dst.set v s
    .ok (dst.afterAccess (src.afterAccess t)))

/-- Destination from the d8 immediate (R163, R164), which the step has read (R132). -/
def loadImm8 (dst : ByteSource) (n : Byte) (s : State) : Host.Outcome State Fault Refusal :=
  commit (dst.set n s)

/-- A 16-bit register from the d16 immediate (R173). -/
def loadImm16 (dst : Reg16) (n : Word) (s : State) : Host.Outcome State Fault Refusal :=
  .next (s.setR16 dst n)

/-- `LD BC,d16` (R173). -/
def execLdBC_Imm (n : Word) (s : State) : Host.Outcome State Fault Refusal := loadImm16 (.pair .bc) n s

/-- `LD (BC),A` (R165). -/
def execLdIndBC_A (s : State) : Host.Outcome State Fault Refusal := load8 (.ind .bc .keep) (.reg .a) s

/-- `LD B,d8` (R163). -/
def execLdB_Imm (n : Byte) (s : State) : Host.Outcome State Fault Refusal := loadImm8 (.reg .b) n s

/-- `LD A,(BC)` (R167). -/
def execLdA_IndBC (s : State) : Host.Outcome State Fault Refusal := load8 (.reg .a) (.ind .bc .keep) s

/-- `LD C,d8` (R163). -/
def execLdC_Imm (n : Byte) (s : State) : Host.Outcome State Fault Refusal := loadImm8 (.reg .c) n s

/-- `LD DE,d16` (R173). -/
def execLdDE_Imm (n : Word) (s : State) : Host.Outcome State Fault Refusal := loadImm16 (.pair .de) n s

/-- `LD (DE),A` (R166). -/
def execLdIndDE_A (s : State) : Host.Outcome State Fault Refusal := load8 (.ind .de .keep) (.reg .a) s

/-- `LD D,d8` (R163). -/
def execLdD_Imm (n : Byte) (s : State) : Host.Outcome State Fault Refusal := loadImm8 (.reg .d) n s

/-- `LD A,(DE)` (R168). -/
def execLdA_IndDE (s : State) : Host.Outcome State Fault Refusal := load8 (.reg .a) (.ind .de .keep) s

/-- `LD E,d8` (R163). -/
def execLdE_Imm (n : Byte) (s : State) : Host.Outcome State Fault Refusal := loadImm8 (.reg .e) n s

/-- `LD HL,d16` (R173). -/
def execLdHL_Imm (n : Word) (s : State) : Host.Outcome State Fault Refusal := loadImm16 (.pair .hl) n s

/-- `LD (HL+),A` (R169). -/
def execLdIndHLInc_A (s : State) : Host.Outcome State Fault Refusal := load8 (.ind .hl .inc) (.reg .a) s

/-- `LD H,d8` (R163). -/
def execLdH_Imm (n : Byte) (s : State) : Host.Outcome State Fault Refusal := loadImm8 (.reg .h) n s

/-- `LD A,(HL+)` (R171). -/
def execLdA_IndHLInc (s : State) : Host.Outcome State Fault Refusal := load8 (.reg .a) (.ind .hl .inc) s

/-- `LD L,d8` (R163). -/
def execLdL_Imm (n : Byte) (s : State) : Host.Outcome State Fault Refusal := loadImm8 (.reg .l) n s

/-- `LD SP,d16` (R173). -/
def execLdSP_Imm (n : Word) (s : State) : Host.Outcome State Fault Refusal := loadImm16 .sp n s

/-- `LD (HL-),A` (R170). -/
def execLdIndHLDec_A (s : State) : Host.Outcome State Fault Refusal := load8 (.ind .hl .dec) (.reg .a) s

/-- `LD (HL),d8` (R164). -/
def execLdIndHL_Imm (n : Byte) (s : State) : Host.Outcome State Fault Refusal := loadImm8 (.ind .hl .keep) n s

/-- `LD A,(HL-)` (R172). -/
def execLdA_IndHLDec (s : State) : Host.Outcome State Fault Refusal := load8 (.reg .a) (.ind .hl .dec) s

/-- `LD A,d8` (R163). -/
def execLdA_Imm (n : Byte) (s : State) : Host.Outcome State Fault Refusal := loadImm8 (.reg .a) n s

/-- `LD B,B` (R160). -/
def execLdB_B (s : State) : Host.Outcome State Fault Refusal := load8 (.reg .b) (.reg .b) s

/-- `LD B,C` (R160). -/
def execLdB_C (s : State) : Host.Outcome State Fault Refusal := load8 (.reg .b) (.reg .c) s

/-- `LD B,D` (R160). -/
def execLdB_D (s : State) : Host.Outcome State Fault Refusal := load8 (.reg .b) (.reg .d) s

/-- `LD B,E` (R160). -/
def execLdB_E (s : State) : Host.Outcome State Fault Refusal := load8 (.reg .b) (.reg .e) s

/-- `LD B,H` (R160). -/
def execLdB_H (s : State) : Host.Outcome State Fault Refusal := load8 (.reg .b) (.reg .h) s

/-- `LD B,L` (R160). -/
def execLdB_L (s : State) : Host.Outcome State Fault Refusal := load8 (.reg .b) (.reg .l) s

/-- `LD B,(HL)` (R161). -/
def execLdB_IndHL (s : State) : Host.Outcome State Fault Refusal := load8 (.reg .b) (.ind .hl .keep) s

/-- `LD B,A` (R160). -/
def execLdB_A (s : State) : Host.Outcome State Fault Refusal := load8 (.reg .b) (.reg .a) s

/-- `LD C,B` (R160). -/
def execLdC_B (s : State) : Host.Outcome State Fault Refusal := load8 (.reg .c) (.reg .b) s

/-- `LD C,C` (R160). -/
def execLdC_C (s : State) : Host.Outcome State Fault Refusal := load8 (.reg .c) (.reg .c) s

/-- `LD C,D` (R160). -/
def execLdC_D (s : State) : Host.Outcome State Fault Refusal := load8 (.reg .c) (.reg .d) s

/-- `LD C,E` (R160). -/
def execLdC_E (s : State) : Host.Outcome State Fault Refusal := load8 (.reg .c) (.reg .e) s

/-- `LD C,H` (R160). -/
def execLdC_H (s : State) : Host.Outcome State Fault Refusal := load8 (.reg .c) (.reg .h) s

/-- `LD C,L` (R160). -/
def execLdC_L (s : State) : Host.Outcome State Fault Refusal := load8 (.reg .c) (.reg .l) s

/-- `LD C,(HL)` (R161). -/
def execLdC_IndHL (s : State) : Host.Outcome State Fault Refusal := load8 (.reg .c) (.ind .hl .keep) s

/-- `LD C,A` (R160). -/
def execLdC_A (s : State) : Host.Outcome State Fault Refusal := load8 (.reg .c) (.reg .a) s

/-- `LD D,B` (R160). -/
def execLdD_B (s : State) : Host.Outcome State Fault Refusal := load8 (.reg .d) (.reg .b) s

/-- `LD D,C` (R160). -/
def execLdD_C (s : State) : Host.Outcome State Fault Refusal := load8 (.reg .d) (.reg .c) s

/-- `LD D,D` (R160). -/
def execLdD_D (s : State) : Host.Outcome State Fault Refusal := load8 (.reg .d) (.reg .d) s

/-- `LD D,E` (R160). -/
def execLdD_E (s : State) : Host.Outcome State Fault Refusal := load8 (.reg .d) (.reg .e) s

/-- `LD D,H` (R160). -/
def execLdD_H (s : State) : Host.Outcome State Fault Refusal := load8 (.reg .d) (.reg .h) s

/-- `LD D,L` (R160). -/
def execLdD_L (s : State) : Host.Outcome State Fault Refusal := load8 (.reg .d) (.reg .l) s

/-- `LD D,(HL)` (R161). -/
def execLdD_IndHL (s : State) : Host.Outcome State Fault Refusal := load8 (.reg .d) (.ind .hl .keep) s

/-- `LD D,A` (R160). -/
def execLdD_A (s : State) : Host.Outcome State Fault Refusal := load8 (.reg .d) (.reg .a) s

/-- `LD E,B` (R160). -/
def execLdE_B (s : State) : Host.Outcome State Fault Refusal := load8 (.reg .e) (.reg .b) s

/-- `LD E,C` (R160). -/
def execLdE_C (s : State) : Host.Outcome State Fault Refusal := load8 (.reg .e) (.reg .c) s

/-- `LD E,D` (R160). -/
def execLdE_D (s : State) : Host.Outcome State Fault Refusal := load8 (.reg .e) (.reg .d) s

/-- `LD E,E` (R160). -/
def execLdE_E (s : State) : Host.Outcome State Fault Refusal := load8 (.reg .e) (.reg .e) s

/-- `LD E,H` (R160). -/
def execLdE_H (s : State) : Host.Outcome State Fault Refusal := load8 (.reg .e) (.reg .h) s

/-- `LD E,L` (R160). -/
def execLdE_L (s : State) : Host.Outcome State Fault Refusal := load8 (.reg .e) (.reg .l) s

/-- `LD E,(HL)` (R161). -/
def execLdE_IndHL (s : State) : Host.Outcome State Fault Refusal := load8 (.reg .e) (.ind .hl .keep) s

/-- `LD E,A` (R160). -/
def execLdE_A (s : State) : Host.Outcome State Fault Refusal := load8 (.reg .e) (.reg .a) s

/-- `LD H,B` (R160). -/
def execLdH_B (s : State) : Host.Outcome State Fault Refusal := load8 (.reg .h) (.reg .b) s

/-- `LD H,C` (R160). -/
def execLdH_C (s : State) : Host.Outcome State Fault Refusal := load8 (.reg .h) (.reg .c) s

/-- `LD H,D` (R160). -/
def execLdH_D (s : State) : Host.Outcome State Fault Refusal := load8 (.reg .h) (.reg .d) s

/-- `LD H,E` (R160). -/
def execLdH_E (s : State) : Host.Outcome State Fault Refusal := load8 (.reg .h) (.reg .e) s

/-- `LD H,H` (R160). -/
def execLdH_H (s : State) : Host.Outcome State Fault Refusal := load8 (.reg .h) (.reg .h) s

/-- `LD H,L` (R160). -/
def execLdH_L (s : State) : Host.Outcome State Fault Refusal := load8 (.reg .h) (.reg .l) s

/-- `LD H,(HL)` (R161). -/
def execLdH_IndHL (s : State) : Host.Outcome State Fault Refusal := load8 (.reg .h) (.ind .hl .keep) s

/-- `LD H,A` (R160). -/
def execLdH_A (s : State) : Host.Outcome State Fault Refusal := load8 (.reg .h) (.reg .a) s

/-- `LD L,B` (R160). -/
def execLdL_B (s : State) : Host.Outcome State Fault Refusal := load8 (.reg .l) (.reg .b) s

/-- `LD L,C` (R160). -/
def execLdL_C (s : State) : Host.Outcome State Fault Refusal := load8 (.reg .l) (.reg .c) s

/-- `LD L,D` (R160). -/
def execLdL_D (s : State) : Host.Outcome State Fault Refusal := load8 (.reg .l) (.reg .d) s

/-- `LD L,E` (R160). -/
def execLdL_E (s : State) : Host.Outcome State Fault Refusal := load8 (.reg .l) (.reg .e) s

/-- `LD L,H` (R160). -/
def execLdL_H (s : State) : Host.Outcome State Fault Refusal := load8 (.reg .l) (.reg .h) s

/-- `LD L,L` (R160). -/
def execLdL_L (s : State) : Host.Outcome State Fault Refusal := load8 (.reg .l) (.reg .l) s

/-- `LD L,(HL)` (R161). -/
def execLdL_IndHL (s : State) : Host.Outcome State Fault Refusal := load8 (.reg .l) (.ind .hl .keep) s

/-- `LD L,A` (R160). -/
def execLdL_A (s : State) : Host.Outcome State Fault Refusal := load8 (.reg .l) (.reg .a) s

/-- `LD (HL),B` (R162). -/
def execLdIndHL_B (s : State) : Host.Outcome State Fault Refusal := load8 (.ind .hl .keep) (.reg .b) s

/-- `LD (HL),C` (R162). -/
def execLdIndHL_C (s : State) : Host.Outcome State Fault Refusal := load8 (.ind .hl .keep) (.reg .c) s

/-- `LD (HL),D` (R162). -/
def execLdIndHL_D (s : State) : Host.Outcome State Fault Refusal := load8 (.ind .hl .keep) (.reg .d) s

/-- `LD (HL),E` (R162). -/
def execLdIndHL_E (s : State) : Host.Outcome State Fault Refusal := load8 (.ind .hl .keep) (.reg .e) s

/-- `LD (HL),H` (R162). -/
def execLdIndHL_H (s : State) : Host.Outcome State Fault Refusal := load8 (.ind .hl .keep) (.reg .h) s

/-- `LD (HL),L` (R162). -/
def execLdIndHL_L (s : State) : Host.Outcome State Fault Refusal := load8 (.ind .hl .keep) (.reg .l) s

/-- `LD (HL),A` (R162). -/
def execLdIndHL_A (s : State) : Host.Outcome State Fault Refusal := load8 (.ind .hl .keep) (.reg .a) s

/-- `LD A,B` (R160). -/
def execLdA_B (s : State) : Host.Outcome State Fault Refusal := load8 (.reg .a) (.reg .b) s

/-- `LD A,C` (R160). -/
def execLdA_C (s : State) : Host.Outcome State Fault Refusal := load8 (.reg .a) (.reg .c) s

/-- `LD A,D` (R160). -/
def execLdA_D (s : State) : Host.Outcome State Fault Refusal := load8 (.reg .a) (.reg .d) s

/-- `LD A,E` (R160). -/
def execLdA_E (s : State) : Host.Outcome State Fault Refusal := load8 (.reg .a) (.reg .e) s

/-- `LD A,H` (R160). -/
def execLdA_H (s : State) : Host.Outcome State Fault Refusal := load8 (.reg .a) (.reg .h) s

/-- `LD A,L` (R160). -/
def execLdA_L (s : State) : Host.Outcome State Fault Refusal := load8 (.reg .a) (.reg .l) s

/-- `LD A,(HL)` (R161). -/
def execLdA_IndHL (s : State) : Host.Outcome State Fault Refusal := load8 (.reg .a) (.ind .hl .keep) s

/-- `LD A,A` (R160). -/
def execLdA_A (s : State) : Host.Outcome State Fault Refusal := load8 (.reg .a) (.reg .a) s

end Sys2Proof.Machine
end

