-- ==== Sys2Proof/Machine/Misc.lean ====
section
/-! DEFINITION. 16-bit add, accumulator rotates and NOP (44_alu16_rotate_nop.md R200 to R205). -/

namespace Sys2Proof.Machine

/-- ADD HL,rr: N = 0, Hf and Cy from the adder, Z not written; ADD HL,HL reads the old HL twice (R200). -/
def addHL (r : Reg16) (s : State) : Host.Outcome State Fault Refusal :=
  let sum := add16 (s.getPair .hl) (s.getR16 r)
  .next ((s.setPair .hl sum.result).setFlags s.f.z false sum.half sum.carry)

/-- A rotate of A: Z = N = Hf = 0, Cy the bit shifted out (R201 to R204; the bit movement is D22, notes/assumptions/11.md). -/
def rotateA (rotate : Byte → Bool → Rotated) (s : State) : Host.Outcome State Fault Refusal :=
  let r := rotate s.a s.f.cy
  .next ((s.setR8 .a r.result).setFlags false false false r.out)

/-- `NOP` (R205). -/
def execNop (s : State) : Host.Outcome State Fault Refusal := .next s

/-- `RLCA` (R201). -/
def execRlca (s : State) : Host.Outcome State Fault Refusal := rotateA rlc s

/-- `ADD HL,BC` (R200). -/
def execAddHL_BC (s : State) : Host.Outcome State Fault Refusal := addHL (.pair .bc) s

/-- `RRCA` (R203). -/
def execRrca (s : State) : Host.Outcome State Fault Refusal := rotateA rrc s

/-- `RLA` (R202). -/
def execRla (s : State) : Host.Outcome State Fault Refusal := rotateA rl s

/-- `ADD HL,DE` (R200). -/
def execAddHL_DE (s : State) : Host.Outcome State Fault Refusal := addHL (.pair .de) s

/-- `RRA` (R204). -/
def execRra (s : State) : Host.Outcome State Fault Refusal := rotateA rr s

/-- `ADD HL,HL` (R200). -/
def execAddHL_HL (s : State) : Host.Outcome State Fault Refusal := addHL (.pair .hl) s

/-- `ADD HL,SP` (R200). -/
def execAddHL_SP (s : State) : Host.Outcome State Fault Refusal := addHL .sp s

end Sys2Proof.Machine
end

