-- ==== Sys2Proof/Machine/Dispatch.lean ====
section
/-! DEFINITION. One arm per constructor of Instr, each a direct call of that instruction's meaning: the `Run` of R134. The
meaning does not touch PC, which the step advances (R141). -/

namespace Sys2Proof.Machine

def exec (i : Instr) (s : State) : Host.Outcome State Fault Refusal :=
  match i with
  | .nop => Sys2Proof.Machine.execNop s
  | .ldBC_Imm n => Sys2Proof.Machine.execLdBC_Imm n s
  | .ldIndBC_A => Sys2Proof.Machine.execLdIndBC_A s
  | .incBC => Sys2Proof.Machine.execIncBC s
  | .incB => Sys2Proof.Machine.execIncB s
  | .decB => Sys2Proof.Machine.execDecB s
  | .ldB_Imm n => Sys2Proof.Machine.execLdB_Imm n s
  | .rlca => Sys2Proof.Machine.execRlca s
  | .addHL_BC => Sys2Proof.Machine.execAddHL_BC s
  | .ldA_IndBC => Sys2Proof.Machine.execLdA_IndBC s
  | .decBC => Sys2Proof.Machine.execDecBC s
  | .incC => Sys2Proof.Machine.execIncC s
  | .decC => Sys2Proof.Machine.execDecC s
  | .ldC_Imm n => Sys2Proof.Machine.execLdC_Imm n s
  | .rrca => Sys2Proof.Machine.execRrca s
  | .ldDE_Imm n => Sys2Proof.Machine.execLdDE_Imm n s
  | .ldIndDE_A => Sys2Proof.Machine.execLdIndDE_A s
  | .incDE => Sys2Proof.Machine.execIncDE s
  | .incD => Sys2Proof.Machine.execIncD s
  | .decD => Sys2Proof.Machine.execDecD s
  | .ldD_Imm n => Sys2Proof.Machine.execLdD_Imm n s
  | .rla => Sys2Proof.Machine.execRla s
  | .addHL_DE => Sys2Proof.Machine.execAddHL_DE s
  | .ldA_IndDE => Sys2Proof.Machine.execLdA_IndDE s
  | .decDE => Sys2Proof.Machine.execDecDE s
  | .incE => Sys2Proof.Machine.execIncE s
  | .decE => Sys2Proof.Machine.execDecE s
  | .ldE_Imm n => Sys2Proof.Machine.execLdE_Imm n s
  | .rra => Sys2Proof.Machine.execRra s
  | .ldHL_Imm n => Sys2Proof.Machine.execLdHL_Imm n s
  | .ldIndHLInc_A => Sys2Proof.Machine.execLdIndHLInc_A s
  | .incHL => Sys2Proof.Machine.execIncHL s
  | .incH => Sys2Proof.Machine.execIncH s
  | .decH => Sys2Proof.Machine.execDecH s
  | .ldH_Imm n => Sys2Proof.Machine.execLdH_Imm n s
  | .addHL_HL => Sys2Proof.Machine.execAddHL_HL s
  | .ldA_IndHLInc => Sys2Proof.Machine.execLdA_IndHLInc s
  | .decHL => Sys2Proof.Machine.execDecHL s
  | .incL => Sys2Proof.Machine.execIncL s
  | .decL => Sys2Proof.Machine.execDecL s
  | .ldL_Imm n => Sys2Proof.Machine.execLdL_Imm n s
  | .ldSP_Imm n => Sys2Proof.Machine.execLdSP_Imm n s
  | .ldIndHLDec_A => Sys2Proof.Machine.execLdIndHLDec_A s
  | .incSP => Sys2Proof.Machine.execIncSP s
  | .incIndHL => Sys2Proof.Machine.execIncIndHL s
  | .decIndHL => Sys2Proof.Machine.execDecIndHL s
  | .ldIndHL_Imm n => Sys2Proof.Machine.execLdIndHL_Imm n s
  | .addHL_SP => Sys2Proof.Machine.execAddHL_SP s
  | .ldA_IndHLDec => Sys2Proof.Machine.execLdA_IndHLDec s
  | .decSP => Sys2Proof.Machine.execDecSP s
  | .incA => Sys2Proof.Machine.execIncA s
  | .decA => Sys2Proof.Machine.execDecA s
  | .ldA_Imm n => Sys2Proof.Machine.execLdA_Imm n s
  | .ldB_B => Sys2Proof.Machine.execLdB_B s
  | .ldB_C => Sys2Proof.Machine.execLdB_C s
  | .ldB_D => Sys2Proof.Machine.execLdB_D s
  | .ldB_E => Sys2Proof.Machine.execLdB_E s
  | .ldB_H => Sys2Proof.Machine.execLdB_H s
  | .ldB_L => Sys2Proof.Machine.execLdB_L s
  | .ldB_IndHL => Sys2Proof.Machine.execLdB_IndHL s
  | .ldB_A => Sys2Proof.Machine.execLdB_A s
  | .ldC_B => Sys2Proof.Machine.execLdC_B s
  | .ldC_C => Sys2Proof.Machine.execLdC_C s
  | .ldC_D => Sys2Proof.Machine.execLdC_D s
  | .ldC_E => Sys2Proof.Machine.execLdC_E s
  | .ldC_H => Sys2Proof.Machine.execLdC_H s
  | .ldC_L => Sys2Proof.Machine.execLdC_L s
  | .ldC_IndHL => Sys2Proof.Machine.execLdC_IndHL s
  | .ldC_A => Sys2Proof.Machine.execLdC_A s
  | .ldD_B => Sys2Proof.Machine.execLdD_B s
  | .ldD_C => Sys2Proof.Machine.execLdD_C s
  | .ldD_D => Sys2Proof.Machine.execLdD_D s
  | .ldD_E => Sys2Proof.Machine.execLdD_E s
  | .ldD_H => Sys2Proof.Machine.execLdD_H s
  | .ldD_L => Sys2Proof.Machine.execLdD_L s
  | .ldD_IndHL => Sys2Proof.Machine.execLdD_IndHL s
  | .ldD_A => Sys2Proof.Machine.execLdD_A s
  | .ldE_B => Sys2Proof.Machine.execLdE_B s
  | .ldE_C => Sys2Proof.Machine.execLdE_C s
  | .ldE_D => Sys2Proof.Machine.execLdE_D s
  | .ldE_E => Sys2Proof.Machine.execLdE_E s
  | .ldE_H => Sys2Proof.Machine.execLdE_H s
  | .ldE_L => Sys2Proof.Machine.execLdE_L s
  | .ldE_IndHL => Sys2Proof.Machine.execLdE_IndHL s
  | .ldE_A => Sys2Proof.Machine.execLdE_A s
  | .ldH_B => Sys2Proof.Machine.execLdH_B s
  | .ldH_C => Sys2Proof.Machine.execLdH_C s
  | .ldH_D => Sys2Proof.Machine.execLdH_D s
  | .ldH_E => Sys2Proof.Machine.execLdH_E s
  | .ldH_H => Sys2Proof.Machine.execLdH_H s
  | .ldH_L => Sys2Proof.Machine.execLdH_L s
  | .ldH_IndHL => Sys2Proof.Machine.execLdH_IndHL s
  | .ldH_A => Sys2Proof.Machine.execLdH_A s
  | .ldL_B => Sys2Proof.Machine.execLdL_B s
  | .ldL_C => Sys2Proof.Machine.execLdL_C s
  | .ldL_D => Sys2Proof.Machine.execLdL_D s
  | .ldL_E => Sys2Proof.Machine.execLdL_E s
  | .ldL_H => Sys2Proof.Machine.execLdL_H s
  | .ldL_L => Sys2Proof.Machine.execLdL_L s
  | .ldL_IndHL => Sys2Proof.Machine.execLdL_IndHL s
  | .ldL_A => Sys2Proof.Machine.execLdL_A s
  | .ldIndHL_B => Sys2Proof.Machine.execLdIndHL_B s
  | .ldIndHL_C => Sys2Proof.Machine.execLdIndHL_C s
  | .ldIndHL_D => Sys2Proof.Machine.execLdIndHL_D s
  | .ldIndHL_E => Sys2Proof.Machine.execLdIndHL_E s
  | .ldIndHL_H => Sys2Proof.Machine.execLdIndHL_H s
  | .ldIndHL_L => Sys2Proof.Machine.execLdIndHL_L s
  | .ldIndHL_A => Sys2Proof.Machine.execLdIndHL_A s
  | .ldA_B => Sys2Proof.Machine.execLdA_B s
  | .ldA_C => Sys2Proof.Machine.execLdA_C s
  | .ldA_D => Sys2Proof.Machine.execLdA_D s
  | .ldA_E => Sys2Proof.Machine.execLdA_E s
  | .ldA_H => Sys2Proof.Machine.execLdA_H s
  | .ldA_L => Sys2Proof.Machine.execLdA_L s
  | .ldA_IndHL => Sys2Proof.Machine.execLdA_IndHL s
  | .ldA_A => Sys2Proof.Machine.execLdA_A s
  | .addA_B => Sys2Proof.Machine.execAddA_B s
  | .addA_C => Sys2Proof.Machine.execAddA_C s
  | .addA_D => Sys2Proof.Machine.execAddA_D s
  | .addA_E => Sys2Proof.Machine.execAddA_E s
  | .addA_H => Sys2Proof.Machine.execAddA_H s
  | .addA_L => Sys2Proof.Machine.execAddA_L s
  | .addA_IndHL => Sys2Proof.Machine.execAddA_IndHL s
  | .addA_A => Sys2Proof.Machine.execAddA_A s
  | .adcA_B => Sys2Proof.Machine.execAdcA_B s
  | .adcA_C => Sys2Proof.Machine.execAdcA_C s
  | .adcA_D => Sys2Proof.Machine.execAdcA_D s
  | .adcA_E => Sys2Proof.Machine.execAdcA_E s
  | .adcA_H => Sys2Proof.Machine.execAdcA_H s
  | .adcA_L => Sys2Proof.Machine.execAdcA_L s
  | .adcA_IndHL => Sys2Proof.Machine.execAdcA_IndHL s
  | .adcA_A => Sys2Proof.Machine.execAdcA_A s
  | .subA_B => Sys2Proof.Machine.execSubA_B s
  | .subA_C => Sys2Proof.Machine.execSubA_C s
  | .subA_D => Sys2Proof.Machine.execSubA_D s
  | .subA_E => Sys2Proof.Machine.execSubA_E s
  | .subA_H => Sys2Proof.Machine.execSubA_H s
  | .subA_L => Sys2Proof.Machine.execSubA_L s
  | .subA_IndHL => Sys2Proof.Machine.execSubA_IndHL s
  | .subA_A => Sys2Proof.Machine.execSubA_A s
  | .sbcA_B => Sys2Proof.Machine.execSbcA_B s
  | .sbcA_C => Sys2Proof.Machine.execSbcA_C s
  | .sbcA_D => Sys2Proof.Machine.execSbcA_D s
  | .sbcA_E => Sys2Proof.Machine.execSbcA_E s
  | .sbcA_H => Sys2Proof.Machine.execSbcA_H s
  | .sbcA_L => Sys2Proof.Machine.execSbcA_L s
  | .sbcA_IndHL => Sys2Proof.Machine.execSbcA_IndHL s
  | .sbcA_A => Sys2Proof.Machine.execSbcA_A s
  | .andB => Sys2Proof.Machine.execAndB s
  | .andC => Sys2Proof.Machine.execAndC s
  | .andD => Sys2Proof.Machine.execAndD s
  | .andE => Sys2Proof.Machine.execAndE s
  | .andH => Sys2Proof.Machine.execAndH s
  | .andL => Sys2Proof.Machine.execAndL s
  | .andIndHL => Sys2Proof.Machine.execAndIndHL s
  | .andA => Sys2Proof.Machine.execAndA s
  | .xorB => Sys2Proof.Machine.execXorB s
  | .xorC => Sys2Proof.Machine.execXorC s
  | .xorD => Sys2Proof.Machine.execXorD s
  | .xorE => Sys2Proof.Machine.execXorE s
  | .xorH => Sys2Proof.Machine.execXorH s
  | .xorL => Sys2Proof.Machine.execXorL s
  | .xorIndHL => Sys2Proof.Machine.execXorIndHL s
  | .xorA => Sys2Proof.Machine.execXorA s
  | .orB => Sys2Proof.Machine.execOrB s
  | .orC => Sys2Proof.Machine.execOrC s
  | .orD => Sys2Proof.Machine.execOrD s
  | .orE => Sys2Proof.Machine.execOrE s
  | .orH => Sys2Proof.Machine.execOrH s
  | .orL => Sys2Proof.Machine.execOrL s
  | .orIndHL => Sys2Proof.Machine.execOrIndHL s
  | .orA => Sys2Proof.Machine.execOrA s
  | .cpB => Sys2Proof.Machine.execCpB s
  | .cpC => Sys2Proof.Machine.execCpC s
  | .cpD => Sys2Proof.Machine.execCpD s
  | .cpE => Sys2Proof.Machine.execCpE s
  | .cpH => Sys2Proof.Machine.execCpH s
  | .cpL => Sys2Proof.Machine.execCpL s
  | .cpIndHL => Sys2Proof.Machine.execCpIndHL s
  | .cpA => Sys2Proof.Machine.execCpA s

end Sys2Proof.Machine
end

