-- ==== Sys2Proof/Decode.lean ====
section
/-! DEFINITION. The decoder (30_encoding.md R97: total, by the fields x, y, z, p, q of the opcode byte) and, after it, the
encoder (from the opcode map R88 and the immediates R86, R87). The two are written apart, each from its own rule. -/

namespace Sys2Proof

/-- What an opcode byte selects: an instruction, or one that takes an immediate of one or two bytes (R80, R81). -/
inductive Template where
  | op  (i : Instr)
  | d8  (mk : Byte → Instr)
  | d16 (mk : Word → Instr)

/-- `Length()` of what an opcode byte selects (R81, R102). -/
def Template.length : Template → Nat
  | .op _ => 1
  | .d8 _ => 2
  | .d16 _ => 3

/-- Why bytes do not decode. -/
inductive DecodeError where
  /-- There is no byte at all. -/
  | noBytes
  /-- The byte is one of the 76 undefined codes (R89). -/
  | undefinedOpcode (code : Byte)
  /-- The immediate of this opcode is not all there. -/
  | truncated (code : Byte)
deriving DecidableEq, Repr

/-! ### The decoder (R97) -/

/-- `LD R16[p],d16` (R84). -/
def decodeLdReg16 (p : Nat) : Option Template :=
  ([Instr.ldBC_Imm, Instr.ldDE_Imm, Instr.ldHL_Imm, Instr.ldSP_Imm][p]?).map Template.d16

/-- `ADD HL,R16[p]` (R84). -/
def decodeAddHL (p : Nat) : Option Template :=
  (([.addHL_BC, .addHL_DE, .addHL_HL, .addHL_SP] : List Instr)[p]?).map Template.op

/-- `LD (BC),A | LD (DE),A | LD (HL+),A | LD (HL-),A` by p (R85). -/
def decodeStoreA (p : Nat) : Option Template :=
  (([.ldIndBC_A, .ldIndDE_A, .ldIndHLInc_A, .ldIndHLDec_A] : List Instr)[p]?).map Template.op

/-- `LD A,(BC) | LD A,(DE) | LD A,(HL+) | LD A,(HL-)` by p (R85). -/
def decodeLoadA (p : Nat) : Option Template :=
  (([.ldA_IndBC, .ldA_IndDE, .ldA_IndHLInc, .ldA_IndHLDec] : List Instr)[p]?).map Template.op

/-- `INC R16[p]` (R84). -/
def decodeIncReg16 (p : Nat) : Option Template :=
  (([.incBC, .incDE, .incHL, .incSP] : List Instr)[p]?).map Template.op

/-- `DEC R16[p]` (R84). -/
def decodeDecReg16 (p : Nat) : Option Template :=
  (([.decBC, .decDE, .decHL, .decSP] : List Instr)[p]?).map Template.op

/-- `INC operand(y)`, in the operand order B, C, D, E, H, L, (HL), A (R83, R93). -/
def decodeIncOperand (y : Nat) : Option Template :=
  (([.incB, .incC, .incD, .incE, .incH, .incL, .incIndHL, .incA] : List Instr)[y]?).map Template.op

/-- `DEC operand(y)` (R83, R93). -/
def decodeDecOperand (y : Nat) : Option Template :=
  (([.decB, .decC, .decD, .decE, .decH, .decL, .decIndHL, .decA] : List Instr)[y]?).map Template.op

/-- `LD operand(y),d8` (R83). -/
def decodeLdImm (y : Nat) : Option Template :=
  ([Instr.ldB_Imm, Instr.ldC_Imm, Instr.ldD_Imm, Instr.ldE_Imm, Instr.ldH_Imm, Instr.ldL_Imm, Instr.ldIndHL_Imm, Instr.ldA_Imm][y]?).map Template.d8

/-- `RLCA | RRCA | RLA | RRA` by y, for y < 4 (R94). -/
def decodeRotate (y : Nat) : Option Template :=
  (([.rlca, .rrca, .rla, .rra] : List Instr)[y]?).map Template.op

/-- `LD operand(y),operand(z)`, destination y, source z (R92); the slot (HL),(HL), code 0x76, is empty (R90). -/
def decodeLd (y z : Nat) : Option Template :=
  (match y with
   | 0 => ([.ldB_B, .ldB_C, .ldB_D, .ldB_E, .ldB_H, .ldB_L, .ldB_IndHL, .ldB_A] : List Instr)[z]?
   | 1 => ([.ldC_B, .ldC_C, .ldC_D, .ldC_E, .ldC_H, .ldC_L, .ldC_IndHL, .ldC_A] : List Instr)[z]?
   | 2 => ([.ldD_B, .ldD_C, .ldD_D, .ldD_E, .ldD_H, .ldD_L, .ldD_IndHL, .ldD_A] : List Instr)[z]?
   | 3 => ([.ldE_B, .ldE_C, .ldE_D, .ldE_E, .ldE_H, .ldE_L, .ldE_IndHL, .ldE_A] : List Instr)[z]?
   | 4 => ([.ldH_B, .ldH_C, .ldH_D, .ldH_E, .ldH_H, .ldH_L, .ldH_IndHL, .ldH_A] : List Instr)[z]?
   | 5 => ([.ldL_B, .ldL_C, .ldL_D, .ldL_E, .ldL_H, .ldL_L, .ldL_IndHL, .ldL_A] : List Instr)[z]?
   | 6 => ([some .ldIndHL_B, some .ldIndHL_C, some .ldIndHL_D, some .ldIndHL_E, some .ldIndHL_H, some .ldIndHL_L, none, some .ldIndHL_A] : List (Option Instr))[z]?.join
   | 7 => ([.ldA_B, .ldA_C, .ldA_D, .ldA_E, .ldA_H, .ldA_L, .ldA_IndHL, .ldA_A] : List Instr)[z]?
   | _ => none).map Template.op

/-- `[ADD | ADC | SUB | SBC | AND | XOR | OR | CP][y] with operand(z)` (R91). -/
def decodeAlu (y z : Nat) : Option Template :=
  (match y with
   | 0 => ([.addA_B, .addA_C, .addA_D, .addA_E, .addA_H, .addA_L, .addA_IndHL, .addA_A] : List Instr)[z]?
   | 1 => ([.adcA_B, .adcA_C, .adcA_D, .adcA_E, .adcA_H, .adcA_L, .adcA_IndHL, .adcA_A] : List Instr)[z]?
   | 2 => ([.subA_B, .subA_C, .subA_D, .subA_E, .subA_H, .subA_L, .subA_IndHL, .subA_A] : List Instr)[z]?
   | 3 => ([.sbcA_B, .sbcA_C, .sbcA_D, .sbcA_E, .sbcA_H, .sbcA_L, .sbcA_IndHL, .sbcA_A] : List Instr)[z]?
   | 4 => ([.andB, .andC, .andD, .andE, .andH, .andL, .andIndHL, .andA] : List Instr)[z]?
   | 5 => ([.xorB, .xorC, .xorD, .xorE, .xorH, .xorL, .xorIndHL, .xorA] : List Instr)[z]?
   | 6 => ([.orB, .orC, .orD, .orE, .orH, .orL, .orIndHL, .orA] : List Instr)[z]?
   | 7 => ([.cpB, .cpC, .cpD, .cpE, .cpH, .cpL, .cpIndHL, .cpA] : List Instr)[z]?
   | _ => none).map Template.op

/-- The quarter x = 0 of the map, by z, then q (R97). -/
def decodeQuarter0 (y z p q : Nat) : Option Template :=
  match z, q with
  | 0, _ => if y = 0 then some (.op .nop) else none
  | 1, 0 => decodeLdReg16 p
  | 1, _ => decodeAddHL p
  | 2, 0 => decodeStoreA p
  | 2, _ => decodeLoadA p
  | 3, 0 => decodeIncReg16 p
  | 3, _ => decodeDecReg16 p
  | 4, _ => decodeIncOperand y
  | 5, _ => decodeDecOperand y
  | 6, _ => decodeLdImm y
  | 7, _ => decodeRotate y
  | _, _ => none

/-- `Decode(op)` (R97): what an opcode byte selects, or absent. x = op[7:6], y = op[5:3], z = op[2:0], p = op[5:4], q = op[3]. -/
def decodeOpcode (op : Byte) : Option Template :=
  let x := (op.extractLsb' 6 2).toNat
  let y := (op.extractLsb' 3 3).toNat
  let z := (op.extractLsb' 0 3).toNat
  let p := (op.extractLsb' 4 2).toNat
  let q := (op.extractLsb' 3 1).toNat
  match x with
  | 0 => decodeQuarter0 y z p q
  | 1 => decodeLd y z
  | 2 => decodeAlu y z
  | _ => none

/-- The instruction at the head of a list of bytes, and the bytes after it. The opcode byte comes first, then the immediate,
low byte first (R82, R86, R87). -/
def decode : List Byte → Except DecodeError (Instr × List Byte)
  | [] => .error .noBytes
  | code :: bytes =>
    match decodeOpcode code, bytes with
    | none, _ => .error (.undefinedOpcode code)
    | some (.op i), rest => .ok (i, rest)
    | some (.d8 mk), n :: rest => .ok (mk n, rest)
    | some (.d16 mk), lo :: hi :: rest => .ok (mk (Machine.fromBytes lo hi), rest)
    | some (.d8 _), _ | some (.d16 _), _ => .error (.truncated code)

/-- The three bytes of a table word of nbits bits: bits 7..0 first, every bit above nbits 0. -/
def tableBytes (nbits w : Nat) : List Byte :=
  let v := w % 2 ^ nbits
  [BitVec.ofNat 8 v, BitVec.ofNat 8 (v / 256), BitVec.ofNat 8 (v / 65536)]

/-- The instruction the decoder reads from a word numbered as spec/opcode_table.json numbers it. -/
def decodeTableWord (nbits w : Nat) : Option Instr :=
  match decode (tableBytes nbits w) with
  | .ok (i, _) => some i
  | .error _ => none

/-! ### The encoder (R88, R86, R87) -/

/-- The bytes of an instruction: its code in the map of R88, then its immediate, low byte first. -/
def encode : Instr → List Byte
  | .nop => [0x00#8]
  | .ldBC_Imm n => [0x01#8, Machine.lsb n, Machine.msb n]
  | .ldIndBC_A => [0x02#8]
  | .incBC => [0x03#8]
  | .incB => [0x04#8]
  | .decB => [0x05#8]
  | .ldB_Imm n => [0x06#8, n]
  | .rlca => [0x07#8]
  | .addHL_BC => [0x09#8]
  | .ldA_IndBC => [0x0A#8]
  | .decBC => [0x0B#8]
  | .incC => [0x0C#8]
  | .decC => [0x0D#8]
  | .ldC_Imm n => [0x0E#8, n]
  | .rrca => [0x0F#8]
  | .ldDE_Imm n => [0x11#8, Machine.lsb n, Machine.msb n]
  | .ldIndDE_A => [0x12#8]
  | .incDE => [0x13#8]
  | .incD => [0x14#8]
  | .decD => [0x15#8]
  | .ldD_Imm n => [0x16#8, n]
  | .rla => [0x17#8]
  | .addHL_DE => [0x19#8]
  | .ldA_IndDE => [0x1A#8]
  | .decDE => [0x1B#8]
  | .incE => [0x1C#8]
  | .decE => [0x1D#8]
  | .ldE_Imm n => [0x1E#8, n]
  | .rra => [0x1F#8]
  | .ldHL_Imm n => [0x21#8, Machine.lsb n, Machine.msb n]
  | .ldIndHLInc_A => [0x22#8]
  | .incHL => [0x23#8]
  | .incH => [0x24#8]
  | .decH => [0x25#8]
  | .ldH_Imm n => [0x26#8, n]
  | .addHL_HL => [0x29#8]
  | .ldA_IndHLInc => [0x2A#8]
  | .decHL => [0x2B#8]
  | .incL => [0x2C#8]
  | .decL => [0x2D#8]
  | .ldL_Imm n => [0x2E#8, n]
  | .ldSP_Imm n => [0x31#8, Machine.lsb n, Machine.msb n]
  | .ldIndHLDec_A => [0x32#8]
  | .incSP => [0x33#8]
  | .incIndHL => [0x34#8]
  | .decIndHL => [0x35#8]
  | .ldIndHL_Imm n => [0x36#8, n]
  | .addHL_SP => [0x39#8]
  | .ldA_IndHLDec => [0x3A#8]
  | .decSP => [0x3B#8]
  | .incA => [0x3C#8]
  | .decA => [0x3D#8]
  | .ldA_Imm n => [0x3E#8, n]
  | .ldB_B => [0x40#8]
  | .ldB_C => [0x41#8]
  | .ldB_D => [0x42#8]
  | .ldB_E => [0x43#8]
  | .ldB_H => [0x44#8]
  | .ldB_L => [0x45#8]
  | .ldB_IndHL => [0x46#8]
  | .ldB_A => [0x47#8]
  | .ldC_B => [0x48#8]
  | .ldC_C => [0x49#8]
  | .ldC_D => [0x4A#8]
  | .ldC_E => [0x4B#8]
  | .ldC_H => [0x4C#8]
  | .ldC_L => [0x4D#8]
  | .ldC_IndHL => [0x4E#8]
  | .ldC_A => [0x4F#8]
  | .ldD_B => [0x50#8]
  | .ldD_C => [0x51#8]
  | .ldD_D => [0x52#8]
  | .ldD_E => [0x53#8]
  | .ldD_H => [0x54#8]
  | .ldD_L => [0x55#8]
  | .ldD_IndHL => [0x56#8]
  | .ldD_A => [0x57#8]
  | .ldE_B => [0x58#8]
  | .ldE_C => [0x59#8]
  | .ldE_D => [0x5A#8]
  | .ldE_E => [0x5B#8]
  | .ldE_H => [0x5C#8]
  | .ldE_L => [0x5D#8]
  | .ldE_IndHL => [0x5E#8]
  | .ldE_A => [0x5F#8]
  | .ldH_B => [0x60#8]
  | .ldH_C => [0x61#8]
  | .ldH_D => [0x62#8]
  | .ldH_E => [0x63#8]
  | .ldH_H => [0x64#8]
  | .ldH_L => [0x65#8]
  | .ldH_IndHL => [0x66#8]
  | .ldH_A => [0x67#8]
  | .ldL_B => [0x68#8]
  | .ldL_C => [0x69#8]
  | .ldL_D => [0x6A#8]
  | .ldL_E => [0x6B#8]
  | .ldL_H => [0x6C#8]
  | .ldL_L => [0x6D#8]
  | .ldL_IndHL => [0x6E#8]
  | .ldL_A => [0x6F#8]
  | .ldIndHL_B => [0x70#8]
  | .ldIndHL_C => [0x71#8]
  | .ldIndHL_D => [0x72#8]
  | .ldIndHL_E => [0x73#8]
  | .ldIndHL_H => [0x74#8]
  | .ldIndHL_L => [0x75#8]
  | .ldIndHL_A => [0x77#8]
  | .ldA_B => [0x78#8]
  | .ldA_C => [0x79#8]
  | .ldA_D => [0x7A#8]
  | .ldA_E => [0x7B#8]
  | .ldA_H => [0x7C#8]
  | .ldA_L => [0x7D#8]
  | .ldA_IndHL => [0x7E#8]
  | .ldA_A => [0x7F#8]
  | .addA_B => [0x80#8]
  | .addA_C => [0x81#8]
  | .addA_D => [0x82#8]
  | .addA_E => [0x83#8]
  | .addA_H => [0x84#8]
  | .addA_L => [0x85#8]
  | .addA_IndHL => [0x86#8]
  | .addA_A => [0x87#8]
  | .adcA_B => [0x88#8]
  | .adcA_C => [0x89#8]
  | .adcA_D => [0x8A#8]
  | .adcA_E => [0x8B#8]
  | .adcA_H => [0x8C#8]
  | .adcA_L => [0x8D#8]
  | .adcA_IndHL => [0x8E#8]
  | .adcA_A => [0x8F#8]
  | .subA_B => [0x90#8]
  | .subA_C => [0x91#8]
  | .subA_D => [0x92#8]
  | .subA_E => [0x93#8]
  | .subA_H => [0x94#8]
  | .subA_L => [0x95#8]
  | .subA_IndHL => [0x96#8]
  | .subA_A => [0x97#8]
  | .sbcA_B => [0x98#8]
  | .sbcA_C => [0x99#8]
  | .sbcA_D => [0x9A#8]
  | .sbcA_E => [0x9B#8]
  | .sbcA_H => [0x9C#8]
  | .sbcA_L => [0x9D#8]
  | .sbcA_IndHL => [0x9E#8]
  | .sbcA_A => [0x9F#8]
  | .andB => [0xA0#8]
  | .andC => [0xA1#8]
  | .andD => [0xA2#8]
  | .andE => [0xA3#8]
  | .andH => [0xA4#8]
  | .andL => [0xA5#8]
  | .andIndHL => [0xA6#8]
  | .andA => [0xA7#8]
  | .xorB => [0xA8#8]
  | .xorC => [0xA9#8]
  | .xorD => [0xAA#8]
  | .xorE => [0xAB#8]
  | .xorH => [0xAC#8]
  | .xorL => [0xAD#8]
  | .xorIndHL => [0xAE#8]
  | .xorA => [0xAF#8]
  | .orB => [0xB0#8]
  | .orC => [0xB1#8]
  | .orD => [0xB2#8]
  | .orE => [0xB3#8]
  | .orH => [0xB4#8]
  | .orL => [0xB5#8]
  | .orIndHL => [0xB6#8]
  | .orA => [0xB7#8]
  | .cpB => [0xB8#8]
  | .cpC => [0xB9#8]
  | .cpD => [0xBA#8]
  | .cpE => [0xBB#8]
  | .cpH => [0xBC#8]
  | .cpL => [0xBD#8]
  | .cpIndHL => [0xBE#8]
  | .cpA => [0xBF#8]

end Sys2Proof
end

