-- ==== Sys2Proof/Machine/Fetch.lean ====
section
/-! DEFINITION. The opcode fetch, the immediate fetch helpers and the decode of one step (40_datapath.md R132, R140). The
immediates are read here, before the instruction runs, and travel with it as its operand: every read of an instruction
comes before its writes (R66), and an immediate that cannot be read stops the step before it (R227): notes/assumptions/7.md. -/

namespace Sys2Proof.Machine

/-- `Imm8()`: the byte at PC + 1, PC being the opcode's address (R86, R132). -/
def imm8 (s : State) : Except Fault Byte := memRead s (s.pc + 1#16) .imm

/-- `Imm16()`: low byte at PC + 1, then high byte at PC + 2 (R87, R132). -/
def imm16 (s : State) : Except Fault Word := do
  let lo ← memRead s (s.pc + 1#16) .imm
  let hi ← memRead s (s.pc + 2#16) .imm
  .ok (fromBytes lo hi)

/-- The immediate fetch that a decoded opcode byte calls for. -/
def fetchOperand (t : Template) (s : State) : Except Fault Instr :=
  match t with
  | .op i => .ok i
  | .d8 mk => (imm8 s).map mk
  | .d16 mk => (imm16 s).map mk

/-- Fetch the opcode at PC, decode it, fetch its immediate: the first half of Step (R140). UndefinedOpcode comes before any
immediate byte is read (R221). -/
def fetch (s : State) : Except Fault Instr := do
  let code ← memRead s s.pc .fetch
  match decodeOpcode code with
  | none => raise (.undefinedOpcode code s.pc)
  | some t => fetchOperand t s

end Sys2Proof.Machine
end

