-- ==== Sys2Proof/Machine/Form.lean ====
section
/-! DEFINITION. The family and operands of each instruction (00_scope.md R2, 10_state.md R28, R29), from which the parts of
an Opcode other than its effect follow: its length (R102), its cycle count (R136) and the accesses it makes (R59). -/

namespace Sys2Proof.Machine

/-- The eight operations of `10ooosss` (R91). -/
inductive AluOp where
  | add | adc | sub | sbc | and | xor | or | cp
deriving DecidableEq, Repr

/-- The four accumulator rotates (R94). -/
inductive Rotate where
  | rlca | rla | rrca | rra
deriving DecidableEq, Repr

/-- The families of R2 with their operands. -/
inductive Form where
  | nop
  | rot (k : Rotate)
  | ld (dst src : ByteSource)
  | ldImm8 (dst : ByteSource) (n : Byte)
  | ldImm16 (dst : Reg16) (n : Word)
  | inc16 (r : Reg16)
  | dec16 (r : Reg16)
  | inc8 (operand : ByteSource)
  | dec8 (operand : ByteSource)
  | alu (op : AluOp) (src : ByteSource)
  | addHL (r : Reg16)
deriving DecidableEq, Repr

end Sys2Proof.Machine

namespace Sys2Proof

open Machine

/-- The family and operands of an instruction (R88). -/
def Instr.form : Instr → Form
  | .nop => .nop
  | .ldBC_Imm n => .ldImm16 (.pair .bc) n
  | .ldIndBC_A => .ld (.ind .bc .keep) (.reg .a)
  | .incBC => .inc16 (.pair .bc)
  | .incB => .inc8 (.reg .b)
  | .decB => .dec8 (.reg .b)
  | .ldB_Imm n => .ldImm8 (.reg .b) n
  | .rlca => .rot .rlca
  | .addHL_BC => .addHL (.pair .bc)
  | .ldA_IndBC => .ld (.reg .a) (.ind .bc .keep)
  | .decBC => .dec16 (.pair .bc)
  | .incC => .inc8 (.reg .c)
  | .decC => .dec8 (.reg .c)
  | .ldC_Imm n => .ldImm8 (.reg .c) n
  | .rrca => .rot .rrca
  | .ldDE_Imm n => .ldImm16 (.pair .de) n
  | .ldIndDE_A => .ld (.ind .de .keep) (.reg .a)
  | .incDE => .inc16 (.pair .de)
  | .incD => .inc8 (.reg .d)
  | .decD => .dec8 (.reg .d)
  | .ldD_Imm n => .ldImm8 (.reg .d) n
  | .rla => .rot .rla
  | .addHL_DE => .addHL (.pair .de)
  | .ldA_IndDE => .ld (.reg .a) (.ind .de .keep)
  | .decDE => .dec16 (.pair .de)
  | .incE => .inc8 (.reg .e)
  | .decE => .dec8 (.reg .e)
  | .ldE_Imm n => .ldImm8 (.reg .e) n
  | .rra => .rot .rra
  | .ldHL_Imm n => .ldImm16 (.pair .hl) n
  | .ldIndHLInc_A => .ld (.ind .hl .inc) (.reg .a)
  | .incHL => .inc16 (.pair .hl)
  | .incH => .inc8 (.reg .h)
  | .decH => .dec8 (.reg .h)
  | .ldH_Imm n => .ldImm8 (.reg .h) n
  | .addHL_HL => .addHL (.pair .hl)
  | .ldA_IndHLInc => .ld (.reg .a) (.ind .hl .inc)
  | .decHL => .dec16 (.pair .hl)
  | .incL => .inc8 (.reg .l)
  | .decL => .dec8 (.reg .l)
  | .ldL_Imm n => .ldImm8 (.reg .l) n
  | .ldSP_Imm n => .ldImm16 .sp n
  | .ldIndHLDec_A => .ld (.ind .hl .dec) (.reg .a)
  | .incSP => .inc16 .sp
  | .incIndHL => .inc8 (.ind .hl .keep)
  | .decIndHL => .dec8 (.ind .hl .keep)
  | .ldIndHL_Imm n => .ldImm8 (.ind .hl .keep) n
  | .addHL_SP => .addHL .sp
  | .ldA_IndHLDec => .ld (.reg .a) (.ind .hl .dec)
  | .decSP => .dec16 .sp
  | .incA => .inc8 (.reg .a)
  | .decA => .dec8 (.reg .a)
  | .ldA_Imm n => .ldImm8 (.reg .a) n
  | .ldB_B => .ld (.reg .b) (.reg .b)
  | .ldB_C => .ld (.reg .b) (.reg .c)
  | .ldB_D => .ld (.reg .b) (.reg .d)
  | .ldB_E => .ld (.reg .b) (.reg .e)
  | .ldB_H => .ld (.reg .b) (.reg .h)
  | .ldB_L => .ld (.reg .b) (.reg .l)
  | .ldB_IndHL => .ld (.reg .b) (.ind .hl .keep)
  | .ldB_A => .ld (.reg .b) (.reg .a)
  | .ldC_B => .ld (.reg .c) (.reg .b)
  | .ldC_C => .ld (.reg .c) (.reg .c)
  | .ldC_D => .ld (.reg .c) (.reg .d)
  | .ldC_E => .ld (.reg .c) (.reg .e)
  | .ldC_H => .ld (.reg .c) (.reg .h)
  | .ldC_L => .ld (.reg .c) (.reg .l)
  | .ldC_IndHL => .ld (.reg .c) (.ind .hl .keep)
  | .ldC_A => .ld (.reg .c) (.reg .a)
  | .ldD_B => .ld (.reg .d) (.reg .b)
  | .ldD_C => .ld (.reg .d) (.reg .c)
  | .ldD_D => .ld (.reg .d) (.reg .d)
  | .ldD_E => .ld (.reg .d) (.reg .e)
  | .ldD_H => .ld (.reg .d) (.reg .h)
  | .ldD_L => .ld (.reg .d) (.reg .l)
  | .ldD_IndHL => .ld (.reg .d) (.ind .hl .keep)
  | .ldD_A => .ld (.reg .d) (.reg .a)
  | .ldE_B => .ld (.reg .e) (.reg .b)
  | .ldE_C => .ld (.reg .e) (.reg .c)
  | .ldE_D => .ld (.reg .e) (.reg .d)
  | .ldE_E => .ld (.reg .e) (.reg .e)
  | .ldE_H => .ld (.reg .e) (.reg .h)
  | .ldE_L => .ld (.reg .e) (.reg .l)
  | .ldE_IndHL => .ld (.reg .e) (.ind .hl .keep)
  | .ldE_A => .ld (.reg .e) (.reg .a)
  | .ldH_B => .ld (.reg .h) (.reg .b)
  | .ldH_C => .ld (.reg .h) (.reg .c)
  | .ldH_D => .ld (.reg .h) (.reg .d)
  | .ldH_E => .ld (.reg .h) (.reg .e)
  | .ldH_H => .ld (.reg .h) (.reg .h)
  | .ldH_L => .ld (.reg .h) (.reg .l)
  | .ldH_IndHL => .ld (.reg .h) (.ind .hl .keep)
  | .ldH_A => .ld (.reg .h) (.reg .a)
  | .ldL_B => .ld (.reg .l) (.reg .b)
  | .ldL_C => .ld (.reg .l) (.reg .c)
  | .ldL_D => .ld (.reg .l) (.reg .d)
  | .ldL_E => .ld (.reg .l) (.reg .e)
  | .ldL_H => .ld (.reg .l) (.reg .h)
  | .ldL_L => .ld (.reg .l) (.reg .l)
  | .ldL_IndHL => .ld (.reg .l) (.ind .hl .keep)
  | .ldL_A => .ld (.reg .l) (.reg .a)
  | .ldIndHL_B => .ld (.ind .hl .keep) (.reg .b)
  | .ldIndHL_C => .ld (.ind .hl .keep) (.reg .c)
  | .ldIndHL_D => .ld (.ind .hl .keep) (.reg .d)
  | .ldIndHL_E => .ld (.ind .hl .keep) (.reg .e)
  | .ldIndHL_H => .ld (.ind .hl .keep) (.reg .h)
  | .ldIndHL_L => .ld (.ind .hl .keep) (.reg .l)
  | .ldIndHL_A => .ld (.ind .hl .keep) (.reg .a)
  | .ldA_B => .ld (.reg .a) (.reg .b)
  | .ldA_C => .ld (.reg .a) (.reg .c)
  | .ldA_D => .ld (.reg .a) (.reg .d)
  | .ldA_E => .ld (.reg .a) (.reg .e)
  | .ldA_H => .ld (.reg .a) (.reg .h)
  | .ldA_L => .ld (.reg .a) (.reg .l)
  | .ldA_IndHL => .ld (.reg .a) (.ind .hl .keep)
  | .ldA_A => .ld (.reg .a) (.reg .a)
  | .addA_B => .alu .add (.reg .b)
  | .addA_C => .alu .add (.reg .c)
  | .addA_D => .alu .add (.reg .d)
  | .addA_E => .alu .add (.reg .e)
  | .addA_H => .alu .add (.reg .h)
  | .addA_L => .alu .add (.reg .l)
  | .addA_IndHL => .alu .add (.ind .hl .keep)
  | .addA_A => .alu .add (.reg .a)
  | .adcA_B => .alu .adc (.reg .b)
  | .adcA_C => .alu .adc (.reg .c)
  | .adcA_D => .alu .adc (.reg .d)
  | .adcA_E => .alu .adc (.reg .e)
  | .adcA_H => .alu .adc (.reg .h)
  | .adcA_L => .alu .adc (.reg .l)
  | .adcA_IndHL => .alu .adc (.ind .hl .keep)
  | .adcA_A => .alu .adc (.reg .a)
  | .subA_B => .alu .sub (.reg .b)
  | .subA_C => .alu .sub (.reg .c)
  | .subA_D => .alu .sub (.reg .d)
  | .subA_E => .alu .sub (.reg .e)
  | .subA_H => .alu .sub (.reg .h)
  | .subA_L => .alu .sub (.reg .l)
  | .subA_IndHL => .alu .sub (.ind .hl .keep)
  | .subA_A => .alu .sub (.reg .a)
  | .sbcA_B => .alu .sbc (.reg .b)
  | .sbcA_C => .alu .sbc (.reg .c)
  | .sbcA_D => .alu .sbc (.reg .d)
  | .sbcA_E => .alu .sbc (.reg .e)
  | .sbcA_H => .alu .sbc (.reg .h)
  | .sbcA_L => .alu .sbc (.reg .l)
  | .sbcA_IndHL => .alu .sbc (.ind .hl .keep)
  | .sbcA_A => .alu .sbc (.reg .a)
  | .andB => .alu .and (.reg .b)
  | .andC => .alu .and (.reg .c)
  | .andD => .alu .and (.reg .d)
  | .andE => .alu .and (.reg .e)
  | .andH => .alu .and (.reg .h)
  | .andL => .alu .and (.reg .l)
  | .andIndHL => .alu .and (.ind .hl .keep)
  | .andA => .alu .and (.reg .a)
  | .xorB => .alu .xor (.reg .b)
  | .xorC => .alu .xor (.reg .c)
  | .xorD => .alu .xor (.reg .d)
  | .xorE => .alu .xor (.reg .e)
  | .xorH => .alu .xor (.reg .h)
  | .xorL => .alu .xor (.reg .l)
  | .xorIndHL => .alu .xor (.ind .hl .keep)
  | .xorA => .alu .xor (.reg .a)
  | .orB => .alu .or (.reg .b)
  | .orC => .alu .or (.reg .c)
  | .orD => .alu .or (.reg .d)
  | .orE => .alu .or (.reg .e)
  | .orH => .alu .or (.reg .h)
  | .orL => .alu .or (.reg .l)
  | .orIndHL => .alu .or (.ind .hl .keep)
  | .orA => .alu .or (.reg .a)
  | .cpB => .alu .cp (.reg .b)
  | .cpC => .alu .cp (.reg .c)
  | .cpD => .alu .cp (.reg .d)
  | .cpE => .alu .cp (.reg .e)
  | .cpH => .alu .cp (.reg .h)
  | .cpL => .alu .cp (.reg .l)
  | .cpIndHL => .alu .cp (.ind .hl .keep)
  | .cpA => .alu .cp (.reg .a)

/-- `Length()` in bytes (R81, R102). -/
def Instr.length (i : Instr) : Nat :=
  match i.form with
  | .ldImm8 _ _ => 2
  | .ldImm16 _ _ => 3
  | .nop | .rot _ | .ld _ _ | .inc16 _ | .dec16 _ | .inc8 _ | .dec8 _ | .alu _ _ | .addHL _ => 1

/-- The cycles a successful Step reports: the family's base plus the operand's extra (R136, R260). It is an output of the
step and no state (R39). -/
def Instr.cycles (i : Instr) : Nat :=
  match i.form with
  | .nop | .rot _ => 4
  | .ld dst src => 4 + dst.accessCycles + src.accessCycles
  | .ldImm8 dst _ => 8 + dst.accessCycles
  | .ldImm16 _ _ => 12
  | .inc16 _ | .dec16 _ | .addHL _ => 8
  | .inc8 operand | .dec8 operand => 4 + operand.modifyCycles
  | .alu _ src => 4 + src.accessCycles

/-- The address of the data byte an instruction reads, if it reads one (R59). -/
def Instr.dataRead (i : Instr) (s : State) : Option Word :=
  match i.form with
  | .ld _ src | .alu _ src => src.address s
  | .inc8 operand | .dec8 operand => operand.address s
  | .nop | .rot _ | .ldImm8 _ _ | .ldImm16 _ _ | .inc16 _ | .dec16 _ | .addHL _ => none

/-- The address of the data byte an instruction writes, if it writes one (R59): for the post-modified forms, HL before its
step. -/
def Instr.dataWrite (i : Instr) (s : State) : Option Word :=
  match i.form with
  | .ld dst _ | .ldImm8 dst _ => dst.address s
  | .inc8 operand | .dec8 operand => operand.address s
  | .nop | .rot _ | .ldImm16 _ _ | .inc16 _ | .dec16 _ | .alu _ _ | .addHL _ => none

end Sys2Proof
end

