-- ==== Sys2Proof/Machine/Run.lean ====
section
/-! DEFINITION. Run's result and the second half of Step (40_datapath.md R135, R140): the advance of PC and the cycle count,
an output and no state (notes/assumptions/8.md). -/

namespace Sys2Proof.Machine

/-- What Run reports on success (R135). -/
structure RunReport where
  cycles     : Nat
  pcModified : Bool
deriving DecidableEq, Repr

/-- The report of an instruction: every instruction in scope returns pc_modified = false (R135). -/
def runReport (i : Instr) : RunReport := { cycles := i.cycles, pcModified := false }

/-- `if not pc_modified: PC <- (pc + Length(ins)) mod 2^16` (R140, R141); pc is the address the opcode was fetched at. -/
def advancePc (pc : Word) (i : Instr) (s : State) : State :=
  if (runReport i).pcModified then s else { s with pc := pc + BitVec.ofNat 16 i.length }

/-- Run a fetched instruction and advance PC (R140): the next state and the cycles, or the fault and no cycles (R261). -/
def runFetched (i : Instr) (s : State) : Host.Outcome (State × Nat) Fault Refusal :=
  match exec i s with
  | .next t => .next (advancePc s.pc i t, (runReport i).cycles)
  | .fault fault => .fault fault
  | .refused why => .refused why

/-- `Step` with its full result (R140, R220): `Ok(next state, cycles)` or `Fault(f)`. -/
def stepWithCycles (s : State) : Host.Outcome (State × Nat) Fault Refusal :=
  match fetch s with
  | .error fault => .fault fault
  | .ok i => runFetched i s

/-- A step's outcome without its cycle count. -/
def dropCycles : Host.Outcome (State × Nat) Fault Refusal → Host.Outcome State Fault Refusal
  | .next (t, _) => .next t
  | .fault fault => .fault fault
  | .refused why => .refused why

/-- The number of bytes a table word occupies: those the table gives it, and those of the instruction it decodes to. -/
def tableWordLength (nbits w : Nat) : Nat :=
  max (nbits / 8) (match decodeTableWord nbits w with
    | some i => i.length
    | none => 1)

end Sys2Proof.Machine
end

