-- ==== Sys2Proof/Machine/Step.lean ====
section
/-! DEFINITION. One step of the machine (40_datapath.md R140), and how the host places one instruction for it to fetch. -/

namespace Sys2Proof.Machine

/-- `Step` (R140): fetch at PC, decode, run, advance PC. Its cycle count is stepWithCycles' other output and no state (R39). -/
def step (s : State) : Host.Outcome State Fault Refusal := dropCycles (stepWithCycles s)

/-- The state with an instruction's bytes at PC, where step fetches: the driver's "load" (R240). The bytes are those of the
instruction and no more; MEM_SIZE grows only if an address of theirs lies outside memory (notes/assumptions/5.md). -/
def State.withFetchWord (s : State) (nbits w : Nat) : State :=
  s.placeBytes s.pc ((tableBytes nbits w).take (tableWordLength nbits w))

end Sys2Proof.Machine
end

