-- ==== Sys2Proof/Machine/Construct.lean ====
section
/-! DEFINITION. Construction, the block's one reset event (70_reset_and_hazards.md R250), for every INIT (00_scope.md R11). -/

namespace Sys2Proof.Machine

/-- INIT: the values construction leaves open (R251, R252). F[3:0] = 0 by the type of Flags. Bytes at addresses ≥ MEM_SIZE are
not part of memory. -/
structure Init where
  a : Byte
  f : Flags
  b : Byte
  c : Byte
  d : Byte
  e : Byte
  h : Byte
  l : Byte
  sp : Word
  pc : Word
  bytes : List Host.Cell
deriving DecidableEq, Repr

/-- The memory that holds the given bytes, the later of two at one address, of those below MEM_SIZE. -/
def Memory.ofCells (memSize : Nat) (bytes : List Host.Cell) : Memory :=
  bytes.foldl (fun m cell => if cell.1 < memSize then m.write cell.1 cell.2 else m) []

/-- The state after construction (R250 to R253): INIT under a configuration. -/
def State.construct (cfg : Config) (init : Init) : State :=
  { cfg := cfg
    a := init.a, f := init.f
    b := init.b, c := init.c, d := init.d, e := init.e, h := init.h, l := init.l
    sp := init.sp, pc := init.pc, mem := Memory.ofCells cfg.memSize init.bytes }

/-- The INIT that State.reset takes (DESIGN CHOICE, notes/assumptions/1.md). -/
def Init.zero : Init :=
  { a := 0, f := { z := false, n := false, hf := false, cy := false }
    b := 0, c := 0, d := 0, e := 0, h := 0, l := 0, sp := 0, pc := 0, bytes := [] }

end Sys2Proof.Machine
end

