-- ==== Sys2Proof/Machine/Driver.lean ====
section
/-! DEFINITION. What the driver may write between steps (60_exceptions.md R240): any register, flag or memory byte, and a
program before the first step. It is no part of a step (notes/assumptions/12.md). A write that would break a contract or
fall outside memory changes nothing and reports the fault (DEDUCED, notes/assumptions/13.md, unsafe outside memory). -/

namespace Sys2Proof.Machine

/-- One action of the driver on the block's state (R240, rows "load" and "set state"). -/
inductive DriverAction where
  | setReg8 (r : Reg8) (v : Byte)
  | setPair (p : Pair) (v : Word)
  | setSp (v : Word)
  | setPc (v : Word)
  | setFlag (name : FlagName) (v : Bool)
  /-- one bit of a cell, through the register file's bit operations (R133) -/
  | setBit (r : Reg8) (index : Nat) (v : Bool)
  | setByte (addr : Word) (v : Byte)
  /-- bytes at consecutive addresses -/
  | load (addr : Word) (bytes : List Byte)
deriving DecidableEq, Repr

/-- Store bytes at consecutive addresses, wrapping modulo 2^16, each within memory (R51, R58). -/
def loadBytes (s : State) (addr : Word) : List Byte → Except Fault State
  | [] => .ok s
  | v :: rest => do
    let t ← memWrite s addr v
    loadBytes t (addr + 1#16) rest

/-- The state after a driver's action (R240); a write of F discards bits 3:0 (R25). -/
def driverWrite (action : DriverAction) (s : State) : Except Fault State :=
  match action with
  | .setReg8 r v => .ok (s.setR8 r v)
  | .setPair p v => .ok (s.setPair p v)
  | .setSp v => .ok { s with sp := v }
  | .setPc v => .ok { s with pc := v }
  | .setFlag name v => .ok (s.setFlag name v)
  | .setBit r index v => (bitSet (s.getR8 r) index v).map (s.setR8 r)
  | .setByte addr v => memWrite s addr v
  | .load addr bytes => loadBytes s addr bytes

end Sys2Proof.Machine
end

