-- ==== Sys2Proof/Machine/Names.lean ====
section
/-! DEFINITION. `Name()` of each opcode (30_encoding.md R100): exactly the string in the cell of the map R88. It is not part of
the state and no rule depends on it; a driver prints a disassembly with it (R237). -/

namespace Sys2Proof

/-- `Name()` (R100); an immediate is shown as d8 or d16. -/
def Instr.name : Instr → String
  | .nop => "NOP"
  | .ldBC_Imm _ => "LD BC,d16"
  | .ldIndBC_A => "LD (BC),A"
  | .incBC => "INC BC"
  | .incB => "INC B"
  | .decB => "DEC B"
  | .ldB_Imm _ => "LD B,d8"
  | .rlca => "RLCA"
  | .addHL_BC => "ADD HL,BC"
  | .ldA_IndBC => "LD A,(BC)"
  | .decBC => "DEC BC"
  | .incC => "INC C"
  | .decC => "DEC C"
  | .ldC_Imm _ => "LD C,d8"
  | .rrca => "RRCA"
  | .ldDE_Imm _ => "LD DE,d16"
  | .ldIndDE_A => "LD (DE),A"
  | .incDE => "INC DE"
  | .incD => "INC D"
  | .decD => "DEC D"
  | .ldD_Imm _ => "LD D,d8"
  | .rla => "RLA"
  | .addHL_DE => "ADD HL,DE"
  | .ldA_IndDE => "LD A,(DE)"
  | .decDE => "DEC DE"
  | .incE => "INC E"
  | .decE => "DEC E"
  | .ldE_Imm _ => "LD E,d8"
  | .rra => "RRA"
  | .ldHL_Imm _ => "LD HL,d16"
  | .ldIndHLInc_A => "LD (HL+),A"
  | .incHL => "INC HL"
  | .incH => "INC H"
  | .decH => "DEC H"
  | .ldH_Imm _ => "LD H,d8"
  | .addHL_HL => "ADD HL,HL"
  | .ldA_IndHLInc => "LD A,(HL+)"
  | .decHL => "DEC HL"
  | .incL => "INC L"
  | .decL => "DEC L"
  | .ldL_Imm _ => "LD L,d8"
  | .ldSP_Imm _ => "LD SP,d16"
  | .ldIndHLDec_A => "LD (HL-),A"
  | .incSP => "INC SP"
  | .incIndHL => "INC (HL)"
  | .decIndHL => "DEC (HL)"
  | .ldIndHL_Imm _ => "LD (HL),d8"
  | .addHL_SP => "ADD HL,SP"
  | .ldA_IndHLDec => "LD A,(HL-)"
  | .decSP => "DEC SP"
  | .incA => "INC A"
  | .decA => "DEC A"
  | .ldA_Imm _ => "LD A,d8"
  | .ldB_B => "LD B,B"
  | .ldB_C => "LD B,C"
  | .ldB_D => "LD B,D"
  | .ldB_E => "LD B,E"
  | .ldB_H => "LD B,H"
  | .ldB_L => "LD B,L"
  | .ldB_IndHL => "LD B,(HL)"
  | .ldB_A => "LD B,A"
  | .ldC_B => "LD C,B"
  | .ldC_C => "LD C,C"
  | .ldC_D => "LD C,D"
  | .ldC_E => "LD C,E"
  | .ldC_H => "LD C,H"
  | .ldC_L => "LD C,L"
  | .ldC_IndHL => "LD C,(HL)"
  | .ldC_A => "LD C,A"
  | .ldD_B => "LD D,B"
  | .ldD_C => "LD D,C"
  | .ldD_D => "LD D,D"
  | .ldD_E => "LD D,E"
  | .ldD_H => "LD D,H"
  | .ldD_L => "LD D,L"
  | .ldD_IndHL => "LD D,(HL)"
  | .ldD_A => "LD D,A"
  | .ldE_B => "LD E,B"
  | .ldE_C => "LD E,C"
  | .ldE_D => "LD E,D"
  | .ldE_E => "LD E,E"
  | .ldE_H => "LD E,H"
  | .ldE_L => "LD E,L"
  | .ldE_IndHL => "LD E,(HL)"
  | .ldE_A => "LD E,A"
  | .ldH_B => "LD H,B"
  | .ldH_C => "LD H,C"
  | .ldH_D => "LD H,D"
  | .ldH_E => "LD H,E"
  | .ldH_H => "LD H,H"
  | .ldH_L => "LD H,L"
  | .ldH_IndHL => "LD H,(HL)"
  | .ldH_A => "LD H,A"
  | .ldL_B => "LD L,B"
  | .ldL_C => "LD L,C"
  | .ldL_D => "LD L,D"
  | .ldL_E => "LD L,E"
  | .ldL_H => "LD L,H"
  | .ldL_L => "LD L,L"
  | .ldL_IndHL => "LD L,(HL)"
  | .ldL_A => "LD L,A"
  | .ldIndHL_B => "LD (HL),B"
  | .ldIndHL_C => "LD (HL),C"
  | .ldIndHL_D => "LD (HL),D"
  | .ldIndHL_E => "LD (HL),E"
  | .ldIndHL_H => "LD (HL),H"
  | .ldIndHL_L => "LD (HL),L"
  | .ldIndHL_A => "LD (HL),A"
  | .ldA_B => "LD A,B"
  | .ldA_C => "LD A,C"
  | .ldA_D => "LD A,D"
  | .ldA_E => "LD A,E"
  | .ldA_H => "LD A,H"
  | .ldA_L => "LD A,L"
  | .ldA_IndHL => "LD A,(HL)"
  | .ldA_A => "LD A,A"
  | .addA_B => "ADD A,B"
  | .addA_C => "ADD A,C"
  | .addA_D => "ADD A,D"
  | .addA_E => "ADD A,E"
  | .addA_H => "ADD A,H"
  | .addA_L => "ADD A,L"
  | .addA_IndHL => "ADD A,(HL)"
  | .addA_A => "ADD A,A"
  | .adcA_B => "ADC A,B"
  | .adcA_C => "ADC A,C"
  | .adcA_D => "ADC A,D"
  | .adcA_E => "ADC A,E"
  | .adcA_H => "ADC A,H"
  | .adcA_L => "ADC A,L"
  | .adcA_IndHL => "ADC A,(HL)"
  | .adcA_A => "ADC A,A"
  | .subA_B => "SUB A,B"
  | .subA_C => "SUB A,C"
  | .subA_D => "SUB A,D"
  | .subA_E => "SUB A,E"
  | .subA_H => "SUB A,H"
  | .subA_L => "SUB A,L"
  | .subA_IndHL => "SUB A,(HL)"
  | .subA_A => "SUB A,A"
  | .sbcA_B => "SBC A,B"
  | .sbcA_C => "SBC A,C"
  | .sbcA_D => "SBC A,D"
  | .sbcA_E => "SBC A,E"
  | .sbcA_H => "SBC A,H"
  | .sbcA_L => "SBC A,L"
  | .sbcA_IndHL => "SBC A,(HL)"
  | .sbcA_A => "SBC A,A"
  | .andB => "AND B"
  | .andC => "AND C"
  | .andD => "AND D"
  | .andE => "AND E"
  | .andH => "AND H"
  | .andL => "AND L"
  | .andIndHL => "AND (HL)"
  | .andA => "AND A"
  | .xorB => "XOR B"
  | .xorC => "XOR C"
  | .xorD => "XOR D"
  | .xorE => "XOR E"
  | .xorH => "XOR H"
  | .xorL => "XOR L"
  | .xorIndHL => "XOR (HL)"
  | .xorA => "XOR A"
  | .orB => "OR B"
  | .orC => "OR C"
  | .orD => "OR D"
  | .orE => "OR E"
  | .orH => "OR H"
  | .orL => "OR L"
  | .orIndHL => "OR (HL)"
  | .orA => "OR A"
  | .cpB => "CP B"
  | .cpC => "CP C"
  | .cpD => "CP D"
  | .cpE => "CP E"
  | .cpH => "CP H"
  | .cpL => "CP L"
  | .cpIndHL => "CP (HL)"
  | .cpA => "CP A"

end Sys2Proof
end

