-- ==== Sys2Proof/WellFormed.lean ====
section
/-! DEFINITION. Well-formedness checks on the terms a reader of the model may write down.

An instruction needs no check: an operand register is part of the constructor's name, and an immediate's width is its
type, so every term of Instr has an encoding (R88, R102) and there is no ill-formed one to refuse. What can be ill-formed
is a configuration: MEM_SIZE is an integer from 1 to 65536 (R8). -/

namespace Sys2Proof

/-- MEM_SIZE is a legal memory size (R8). PAIR_ORDER has no illegal value (R9). -/
def Config.wf (c : Config) : Bool := decide (1 ≤ c.memSize) && decide (c.memSize ≤ Config.maxMemSize)

end Sys2Proof
end

