-- ==== Sys2Proof/Safety.lean ====
section
/-! DEFINITION. The terms in which claims speak of a safe run: the invariant, the fault a step reports, and a run with no
fault. -/

namespace Sys2Proof.Machine

/-- Every listed byte lies inside memory (R51). -/
def Memory.within (m : Memory) (memSize : Nat) : Bool := m.all (fun cell => decide (cell.1 < memSize))

/-- The invariant of the machine: a legal configuration (R8), the memory list in canonical form and inside memory (R51).
F[3:0] = 0 (R25) needs no clause: those bits are not stored. -/
def State.inv (s : State) : Bool := s.cfg.wf && s.mem.wf && s.mem.within s.cfg.memSize

/-- The value of an 8-bit operand, where its byte is inside memory (R128, R129). -/
def operandValue (s : State) : ByteSource → Byte
  | .reg r => s.getR8 r
  | .ind p _ => s.byteAt (s.getPair p)

/-- The operand's byte is inside memory; a register always is. -/
def Readable (s : State) : ByteSource → Prop
  | .reg _ => True
  | .ind p _ => s.inMemory (s.getPair p)

/-- The first address of a list that lies outside memory. -/
def firstOutside (s : State) (addrs : List Word) : Option Word := addrs.find? (fun addr => !decide (s.inMemory addr))

/-- The addresses of the immediate bytes that an opcode byte calls for, in the order they are read (R59, R66). -/
def immediateAddresses (pc : Word) (length : Nat) : List Word := ([pc + 1#16, pc + 2#16] : List Word).take (length - 1)

/-- The fault the spec has a step report (R227): the first, in the order of the accesses, of the opcode fetch, the
undefined code, the immediates, the data read and the data write. The instruction is the one that the bytes at PC spell. -/
def expectedFault (s : State) : Option Fault :=
  if ¬ s.inMemory s.pc then some (.memFault s.pc .fetch)
  else match decodeOpcode (s.byteAt s.pc) with
    | none => some (.undefinedOpcode (s.byteAt s.pc) s.pc)
    | some t =>
      match firstOutside s (immediateAddresses s.pc t.length) with
      | some addr => some (.memFault addr .imm)
      | none =>
        match decode [s.byteAt s.pc, s.byteAt (s.pc + 1#16), s.byteAt (s.pc + 2#16)] with
        | .error _ => none
        | .ok (i, _) =>
          match firstOutside s (i.dataRead s).toList with
          | some addr => some (.memFault addr .read)
          | none => (firstOutside s (i.dataWrite s).toList).map (fun addr => .memFault addr .write)

/-- A run of k steps that reports no fault and meets no refusal. -/
def SafeRun (k : Nat) (s : State) : Prop := ∃ t, Sys2Proof.core.run k s = .next t

end Sys2Proof.Machine
end

