-- ==== Sys2Proof/Certificates/Slice0/Obligations.lean ====
section
/-! DEFINITION. The statements for the provers. First the vocabulary they share: tables of the instructions of each shape,
written out from the opcode map (30_encoding.md R88), and what an instruction leaves unchanged. Then the statements. -/

namespace Sys2Proof.Claims

open Machine

/-! ### Shared vocabulary -/

/-- The instruction has exactly these bytes, and they decode to it whatever follows. -/
def EncodedAs (i : Instr) (bytes : List Byte) : Prop :=
  encode i = bytes ∧ ∀ rest, decode (bytes ++ rest) = .ok (i, rest)

/-- What an instruction leaves unchanged: every cell but the named ones (F is said flag by flag), every flag but the named
ones, the low bits of F, SP unless named, PC (the step advances it) and the configuration. -/
def Frame (cells : List Reg8) (flags : List FlagName) (spWritten : Bool) (s t : State) : Prop :=
  (∀ r : Reg8, r ≠ .f → r ∉ cells → t.getR8 r = s.getR8 r) ∧
  (∀ name : FlagName, name ∉ flags → t.flag name = s.flag name) ∧
  t.getR8 .f &&& 0x0F#8 = s.getR8 .f &&& 0x0F#8 ∧
  (spWritten = false → t.sp = s.sp) ∧ t.pc = s.pc ∧ t.cfg = s.cfg

/-- Every byte of memory reads as before. -/
def MemSame (s t : State) : Prop := ∀ addr : Word, t.byteAt addr = s.byteAt addr

/-- Every byte of memory but one reads as before. -/
def MemSameExcept (stored : Word) (s t : State) : Prop := ∀ addr : Word, addr ≠ stored → t.byteAt addr = s.byteAt addr

/-- The byte that a list of bytes given to construction leaves at an address: the last one it names there. -/
def lastByteAt (bytes : List Host.Cell) (addr : Nat) : Byte :=
  match bytes.reverse.find? (fun cell => cell.1 == addr) with
  | some cell => cell.2
  | none => Memory.unlisted

/-- The address of byte k of a load, wrapping modulo 2^16 (20_memory.md R58). -/
def loadAddress (addr : Word) (k : Nat) : Word := addr + BitVec.ofNat 16 k

/-- The cells of a 16-bit register. -/
def cellsOf : Reg16 → List Reg8
  | .pair p => [p.first, p.second]
  | .sp => []

/-- The step reads the d8 immediate at PC + 1, and faults where that byte is outside memory. -/
def TakesImm8 (code : Byte) (mk : Byte → Instr) : Prop :=
  ∀ s : State, s.inMemory s.pc → s.byteAt s.pc = code →
    (s.inMemory (s.pc + 1#16) → fetch s = .ok (mk (s.byteAt (s.pc + 1#16)))) ∧
    (¬ s.inMemory (s.pc + 1#16) → step s = .fault (.memFault (s.pc + 1#16) .imm))

/-- The step reads the d16 immediate, low byte at PC + 1 and high byte at PC + 2, and faults at the first of the two that is
outside memory. -/
def TakesImm16 (code : Byte) (mk : Word → Instr) : Prop :=
  ∀ s : State, s.inMemory s.pc → s.byteAt s.pc = code →
    (s.inMemory (s.pc + 1#16) → s.inMemory (s.pc + 2#16) →
      ∃ n, fetch s = .ok (mk n) ∧ n.toNat = (s.byteAt (s.pc + 2#16)).toNat * 256 + (s.byteAt (s.pc + 1#16)).toNat) ∧
    (¬ s.inMemory (s.pc + 1#16) → step s = .fault (.memFault (s.pc + 1#16) .imm)) ∧
    (s.inMemory (s.pc + 1#16) → ¬ s.inMemory (s.pc + 2#16) → step s = .fault (.memFault (s.pc + 2#16) .imm))

/-- An 8-bit ALU instruction: with its operand inside memory (a register always is) it completes, A and the flags as
`effect` says from the old state, the operand's value and the new state, no other register and no byte of memory changed;
else it reports MemFault(HL, read). 4 cycles, 8 with (HL). -/
def AluRuns (code : Byte) (i : Instr) (src : ByteSource) (effect : State → Byte → State → Prop) : Prop :=
  EncodedAs i [code] ∧ i.cycles = (if src = .ind .hl .keep then 8 else 4) ∧
  ∀ s : State,
    (Readable s src → ∃ t, exec i s = .next t ∧ effect s (operandValue s src) t ∧
      Frame [.a] [.z, .n, .hf, .cy] false s t ∧ MemSame s t) ∧
    (¬ Readable s src → exec i s = .fault (.memFault (s.getPair .hl) .read))

/-- The values of the four flags. -/
def FlagsAre (t : State) (z n hf cy : Bool) : Prop := t.flag .z = z ∧ t.flag .n = n ∧ t.flag .hf = hf ∧ t.flag .cy = cy

/-- The flags an instruction writes (10_state.md R27). -/
def flagsWritten (i : Instr) : List FlagName :=
  match i.form with
  | .nop | .ld _ _ | .ldImm8 _ _ | .ldImm16 _ _ | .inc16 _ | .dec16 _ => []
  | .inc8 _ | .dec8 _ => [.z, .n, .hf]
  | .addHL _ => [.n, .hf, .cy]
  | .rot _ | .alu _ _ => [.z, .n, .hf, .cy]

/-- The instructions that read Cy: ADC, SBC, RLA and RRA (10_state.md R27). -/
def readsCarry (i : Instr) : Bool :=
  match i.form with
  | .alu .adc _ | .alu .sbc _ | .rot .rla | .rot .rra => true
  | _ => false

/-- An operand is a register, so no pair is read to find it. -/
def isRegister : ByteSource → Bool
  | .reg _ => true
  | .ind _ _ => false

/-- The instructions that use BC, DE or HL as 16 bits, as a value or as a pointer (10_state.md R22). -/
def usesPair (i : Instr) : Bool :=
  match i.form with
  | .nop | .rot _ => false
  | .ld dst src => !(isRegister dst && isRegister src)
  | .ldImm8 operand _ | .inc8 operand | .dec8 operand | .alu _ operand => !isRegister operand
  | .ldImm16 .sp _ | .inc16 .sp | .dec16 .sp => false
  | .ldImm16 (.pair _) _ | .inc16 (.pair _) | .dec16 (.pair _) | .addHL _ => true

/-- An outcome with its next state changed. -/
def mapNext (f : State → State) : Host.Outcome State Fault Refusal → Host.Outcome State Fault Refusal
  | .next t => .next (f t)
  | .fault fault => .fault fault
  | .refused why => .refused why

/-- One instruction run a number of times. -/
def execTimes (i : Instr) : Nat → State → Host.Outcome State Fault Refusal
  | 0, s => .next s
  | k + 1, s =>
    match exec i s with
    | .next t => execTimes i k t
    | .fault fault => .fault fault
    | .refused why => .refused why

/-- The 76 codes with no instruction (30_encoding.md R89). -/
def undefinedCodes : List Byte :=
  [0x08#8, 0x10#8, 0x18#8, 0x20#8, 0x27#8, 0x28#8, 0x2F#8, 0x30#8, 0x37#8, 0x38#8, 0x3F#8, 0x76#8] ++
    (List.range 64).map (fun k => BitVec.ofNat 8 (0xC0 + k))

/-! ### The instructions by shape, from the map R88 -/

/-- LD d,s with both registers: code, instruction, d, s (R160). -/
def registerLoads : List (Byte × Instr × Reg8 × Reg8) :=
  List.flatten
    [[(0x40#8, .ldB_B, .b, .b), (0x41#8, .ldB_C, .b, .c),
      (0x42#8, .ldB_D, .b, .d), (0x43#8, .ldB_E, .b, .e),
      (0x44#8, .ldB_H, .b, .h), (0x45#8, .ldB_L, .b, .l),
      (0x47#8, .ldB_A, .b, .a)],
     [(0x48#8, .ldC_B, .c, .b), (0x49#8, .ldC_C, .c, .c),
      (0x4A#8, .ldC_D, .c, .d), (0x4B#8, .ldC_E, .c, .e),
      (0x4C#8, .ldC_H, .c, .h), (0x4D#8, .ldC_L, .c, .l),
      (0x4F#8, .ldC_A, .c, .a)],
     [(0x50#8, .ldD_B, .d, .b), (0x51#8, .ldD_C, .d, .c),
      (0x52#8, .ldD_D, .d, .d), (0x53#8, .ldD_E, .d, .e),
      (0x54#8, .ldD_H, .d, .h), (0x55#8, .ldD_L, .d, .l),
      (0x57#8, .ldD_A, .d, .a)],
     [(0x58#8, .ldE_B, .e, .b), (0x59#8, .ldE_C, .e, .c),
      (0x5A#8, .ldE_D, .e, .d), (0x5B#8, .ldE_E, .e, .e),
      (0x5C#8, .ldE_H, .e, .h), (0x5D#8, .ldE_L, .e, .l),
      (0x5F#8, .ldE_A, .e, .a)],
     [(0x60#8, .ldH_B, .h, .b), (0x61#8, .ldH_C, .h, .c),
      (0x62#8, .ldH_D, .h, .d), (0x63#8, .ldH_E, .h, .e),
      (0x64#8, .ldH_H, .h, .h), (0x65#8, .ldH_L, .h, .l),
      (0x67#8, .ldH_A, .h, .a)],
     [(0x68#8, .ldL_B, .l, .b), (0x69#8, .ldL_C, .l, .c),
      (0x6A#8, .ldL_D, .l, .d), (0x6B#8, .ldL_E, .l, .e),
      (0x6C#8, .ldL_H, .l, .h), (0x6D#8, .ldL_L, .l, .l),
      (0x6F#8, .ldL_A, .l, .a)],
     [(0x78#8, .ldA_B, .a, .b), (0x79#8, .ldA_C, .a, .c),
      (0x7A#8, .ldA_D, .a, .d), (0x7B#8, .ldA_E, .a, .e),
      (0x7C#8, .ldA_H, .a, .h), (0x7D#8, .ldA_L, .a, .l),
      (0x7F#8, .ldA_A, .a, .a)]]

/-- LD d,(HL): code, instruction, d (R161). -/
def loadsFromHL : List (Byte × Instr × Reg8) :=
  [(0x46#8, .ldB_IndHL, .b), (0x4E#8, .ldC_IndHL, .c),
   (0x56#8, .ldD_IndHL, .d), (0x5E#8, .ldE_IndHL, .e),
   (0x66#8, .ldH_IndHL, .h), (0x6E#8, .ldL_IndHL, .l),
   (0x7E#8, .ldA_IndHL, .a)]

/-- LD (HL),s: code, instruction, s (R162). -/
def storesToHL : List (Byte × Instr × Reg8) :=
  [(0x70#8, .ldIndHL_B, .b), (0x71#8, .ldIndHL_C, .c),
   (0x72#8, .ldIndHL_D, .d), (0x73#8, .ldIndHL_E, .e),
   (0x74#8, .ldIndHL_H, .h), (0x75#8, .ldIndHL_L, .l),
   (0x77#8, .ldIndHL_A, .a)]

/-- LD d,d8 with d a register: code, instruction, d (R163). -/
def immediateLoads : List (Byte × (Byte → Instr) × Reg8) :=
  [(0x06#8, Instr.ldB_Imm, .b), (0x0E#8, Instr.ldC_Imm, .c),
   (0x16#8, Instr.ldD_Imm, .d), (0x1E#8, Instr.ldE_Imm, .e),
   (0x26#8, Instr.ldH_Imm, .h), (0x2E#8, Instr.ldL_Imm, .l),
   (0x3E#8, Instr.ldA_Imm, .a)]

/-- LD (BC),A and LD (DE),A: code, instruction, pointer (R165, R166). -/
def storesOfA : List (Byte × Instr × Pair) :=
  [(0x02#8, .ldIndBC_A, .bc), (0x12#8, .ldIndDE_A, .de)]

/-- LD A,(BC) and LD A,(DE): code, instruction, pointer (R167, R168). -/
def loadsOfA : List (Byte × Instr × Pair) :=
  [(0x0A#8, .ldA_IndBC, .bc), (0x1A#8, .ldA_IndDE, .de)]

/-- LD (HL+),A and LD (HL-),A: code, instruction, what is added to HL (R169, R170). -/
def steppingStores : List (Byte × Instr × Word) :=
  [(0x22#8, .ldIndHLInc_A, 1#16), (0x32#8, .ldIndHLDec_A, 0xFFFF#16)]

/-- LD A,(HL+) and LD A,(HL-): code, instruction, what is added to HL (R171, R172). -/
def steppingLoads : List (Byte × Instr × Word) :=
  [(0x2A#8, .ldA_IndHLInc, 1#16), (0x3A#8, .ldA_IndHLDec, 0xFFFF#16)]

/-- LD rr,d16: code, instruction, rr (R173). -/
def immediateLoads16 : List (Byte × (Word → Instr) × Reg16) :=
  [(0x01#8, Instr.ldBC_Imm, (.pair .bc)), (0x11#8, Instr.ldDE_Imm, (.pair .de)),
   (0x21#8, Instr.ldHL_Imm, (.pair .hl)), (0x31#8, Instr.ldSP_Imm, .sp)]

/-- INC rr: code, instruction, rr (R180). -/
def increments16 : List (Byte × Instr × Reg16) :=
  [(0x03#8, .incBC, (.pair .bc)), (0x13#8, .incDE, (.pair .de)),
   (0x23#8, .incHL, (.pair .hl)), (0x33#8, .incSP, .sp)]

/-- DEC rr: code, instruction, rr (R181). -/
def decrements16 : List (Byte × Instr × Reg16) :=
  [(0x0B#8, .decBC, (.pair .bc)), (0x1B#8, .decDE, (.pair .de)),
   (0x2B#8, .decHL, (.pair .hl)), (0x3B#8, .decSP, .sp)]

/-- INC r with r a register: code, instruction, r (R182). -/
def increments8 : List (Byte × Instr × Reg8) :=
  [(0x04#8, .incB, .b), (0x0C#8, .incC, .c),
   (0x14#8, .incD, .d), (0x1C#8, .incE, .e),
   (0x24#8, .incH, .h), (0x2C#8, .incL, .l),
   (0x3C#8, .incA, .a)]

/-- DEC r with r a register: code, instruction, r (R184). -/
def decrements8 : List (Byte × Instr × Reg8) :=
  [(0x05#8, .decB, .b), (0x0D#8, .decC, .c),
   (0x15#8, .decD, .d), (0x1D#8, .decE, .e),
   (0x25#8, .decH, .h), (0x2D#8, .decL, .l),
   (0x3D#8, .decA, .a)]

/-- ADD A,s: code, instruction, operand s (R190). -/
def addRows : List (Byte × Instr × ByteSource) :=
  [(0x80#8, .addA_B, .reg .b), (0x81#8, .addA_C, .reg .c),
   (0x82#8, .addA_D, .reg .d), (0x83#8, .addA_E, .reg .e),
   (0x84#8, .addA_H, .reg .h), (0x85#8, .addA_L, .reg .l),
   (0x86#8, .addA_IndHL, .ind .hl .keep), (0x87#8, .addA_A, .reg .a)]

/-- ADC A,s: code, instruction, operand s (R191). -/
def adcRows : List (Byte × Instr × ByteSource) :=
  [(0x88#8, .adcA_B, .reg .b), (0x89#8, .adcA_C, .reg .c),
   (0x8A#8, .adcA_D, .reg .d), (0x8B#8, .adcA_E, .reg .e),
   (0x8C#8, .adcA_H, .reg .h), (0x8D#8, .adcA_L, .reg .l),
   (0x8E#8, .adcA_IndHL, .ind .hl .keep), (0x8F#8, .adcA_A, .reg .a)]

/-- SUB A,s: code, instruction, operand s (R192). -/
def subRows : List (Byte × Instr × ByteSource) :=
  [(0x90#8, .subA_B, .reg .b), (0x91#8, .subA_C, .reg .c),
   (0x92#8, .subA_D, .reg .d), (0x93#8, .subA_E, .reg .e),
   (0x94#8, .subA_H, .reg .h), (0x95#8, .subA_L, .reg .l),
   (0x96#8, .subA_IndHL, .ind .hl .keep), (0x97#8, .subA_A, .reg .a)]

/-- SBC A,s: code, instruction, operand s (R193). -/
def sbcRows : List (Byte × Instr × ByteSource) :=
  [(0x98#8, .sbcA_B, .reg .b), (0x99#8, .sbcA_C, .reg .c),
   (0x9A#8, .sbcA_D, .reg .d), (0x9B#8, .sbcA_E, .reg .e),
   (0x9C#8, .sbcA_H, .reg .h), (0x9D#8, .sbcA_L, .reg .l),
   (0x9E#8, .sbcA_IndHL, .ind .hl .keep), (0x9F#8, .sbcA_A, .reg .a)]

/-- AND s: code, instruction, operand s (R194). -/
def andRows : List (Byte × Instr × ByteSource) :=
  [(0xA0#8, .andB, .reg .b), (0xA1#8, .andC, .reg .c),
   (0xA2#8, .andD, .reg .d), (0xA3#8, .andE, .reg .e),
   (0xA4#8, .andH, .reg .h), (0xA5#8, .andL, .reg .l),
   (0xA6#8, .andIndHL, .ind .hl .keep), (0xA7#8, .andA, .reg .a)]

/-- XOR s: code, instruction, operand s (R195). -/
def xorRows : List (Byte × Instr × ByteSource) :=
  [(0xA8#8, .xorB, .reg .b), (0xA9#8, .xorC, .reg .c),
   (0xAA#8, .xorD, .reg .d), (0xAB#8, .xorE, .reg .e),
   (0xAC#8, .xorH, .reg .h), (0xAD#8, .xorL, .reg .l),
   (0xAE#8, .xorIndHL, .ind .hl .keep), (0xAF#8, .xorA, .reg .a)]

/-- OR s: code, instruction, operand s (R196). -/
def orRows : List (Byte × Instr × ByteSource) :=
  [(0xB0#8, .orB, .reg .b), (0xB1#8, .orC, .reg .c),
   (0xB2#8, .orD, .reg .d), (0xB3#8, .orE, .reg .e),
   (0xB4#8, .orH, .reg .h), (0xB5#8, .orL, .reg .l),
   (0xB6#8, .orIndHL, .ind .hl .keep), (0xB7#8, .orA, .reg .a)]

/-- CP s: code, instruction, operand s (R197). -/
def cpRows : List (Byte × Instr × ByteSource) :=
  [(0xB8#8, .cpB, .reg .b), (0xB9#8, .cpC, .reg .c),
   (0xBA#8, .cpD, .reg .d), (0xBB#8, .cpE, .reg .e),
   (0xBC#8, .cpH, .reg .h), (0xBD#8, .cpL, .reg .l),
   (0xBE#8, .cpIndHL, .ind .hl .keep), (0xBF#8, .cpA, .reg .a)]

/-- ADD HL,rr: code, instruction, rr (R200). -/
def addsToHL : List (Byte × Instr × Reg16) :=
  [(0x09#8, .addHL_BC, (.pair .bc)), (0x19#8, .addHL_DE, (.pair .de)),
   (0x29#8, .addHL_HL, (.pair .hl)), (0x39#8, .addHL_SP, .sp)]

end Sys2Proof.Claims

open Sys2Proof Sys2Proof.Machine Sys2Proof.Claims

/-- Decode and encode agree (R88, R97): for every instruction, with its immediate at every value, no bit of an encoding is dropped. -/
def Obligations.DecodeEncodeRoundTrip : Prop :=
  ∀ (i : Instr) (rest : List Byte), decode (encode i ++ rest) = .ok (i, rest)

/-- Each word has one meaning (R98): whatever decodes to an instruction is that instruction's encoding. -/
def Obligations.EncodingIsUnique : Prop :=
  ∀ (bytes rest : List Byte) (i : Instr), decode bytes = .ok (i, rest) → bytes = encode i ++ rest

/-- Words written out from the formats of R82 decode to the instructions the map R88 gives them. Where R82 goes beyond the source
(R91 to R93: 0x41, 0x75, 0x2D, 0x34, 0x9E and 0xAF) the codes are the spec's decisions D19, D20, D21 (log entry 11, PRESUMED); the low
byte of d16 comes first by decision D7. -/
def Obligations.SampleWordsDecode : Prop :=
  decode [0b00000000#8] = .ok (.nop, []) ∧
  decode [0b00010111#8] = .ok (.rla, []) ∧ decode [0b00001111#8] = .ok (.rrca, []) ∧
  decode [0b01000001#8] = .ok (.ldB_C, []) ∧ decode [0b01110101#8] = .ok (.ldIndHL_L, []) ∧
  decode [0b00001110#8, 0x42#8] = .ok (.ldC_Imm 0x42#8, []) ∧
  decode [0b00110110#8, 0x99#8] = .ok (.ldIndHL_Imm 0x99#8, []) ∧
  decode [0b00110100#8] = .ok (.incIndHL, []) ∧ decode [0b00101101#8] = .ok (.decL, []) ∧
  decode [0b10011110#8] = .ok (.sbcA_IndHL, []) ∧ decode [0b10101111#8] = .ok (.xorA, []) ∧
  decode [0b00010001#8, 0x34#8, 0x12#8] = .ok (.ldDE_Imm 0x1234#16, []) ∧
  decode [0b00110011#8] = .ok (.incSP, []) ∧ decode [0b00011011#8] = .ok (.decDE, []) ∧
  decode [0b00101001#8] = .ok (.addHL_HL, []) ∧
  decode [0b00110010#8] = .ok (.ldIndHLDec_A, []) ∧ decode [0b00101010#8] = .ok (.ldA_IndHLInc, []) ∧
  decode [0x76#8] = .error (.undefinedOpcode 0x76#8) ∧ decode [0xCB#8, 0x37#8] = .error (.undefinedOpcode 0xCB#8)

/-- A step runs the decoded instruction (R140): exec of it, with PC moved past its bytes, as many as its encoding has (R102, decision
D6). That an immediate is the bytes at PC + 1 and PC + 2, low byte first (R86, R87, R132), is decisions D5 and D7 (log entry 7). -/
def Obligations.StepRunsDecodedInstruction : Prop :=
  (∀ i : Instr, i.length = (encode i).length) ∧
  ∀ (s : State) (i : Instr) (rest : List Byte),
    decode [s.byteAt s.pc, s.byteAt (s.pc + 1#16), s.byteAt (s.pc + 2#16)] = .ok (i, rest) →
    (∀ k : Nat, k < i.length → s.inMemory (s.pc + BitVec.ofNat 16 k)) →
    step s = mapNext (fun t => { t with pc := s.pc + BitVec.ofNat 16 i.length }) (exec i s)

/-- The whole of a step's outcome (R220, R227; the priority is the spec's decision D16, the MemFault policy D4): the first fault in access order, or a next state. -/
def Obligations.StepOutcomeIsTheFirstFault : Prop :=
  ∀ s : State,
    (∀ fault, expectedFault s = some fault → step s = .fault fault) ∧
    (expectedFault s = none → ∃ t, step s = .next t)

/-- R141: the only write of PC is the advance of the step, by 1, 2 or 3 modulo 2^16. -/
def Obligations.StepAdvancesPcByLength : Prop :=
  (∀ (i : Instr) (s t : State), exec i s = .next t → t.pc = s.pc) ∧
  (∀ s t : State, step s = .next t → ∃ i, fetch s = .ok i ∧ t.pc = s.pc + BitVec.ofNat 16 i.length ∧
    (i.length = 1 ∨ i.length = 2 ∨ i.length = 3))

/-- R221: UndefinedOpcode, before any immediate byte is read, exactly for the 76 codes. -/
def Obligations.UndefinedOpcodeIsReported : Prop :=
  ∀ s : State,
    (s.inMemory s.pc → s.byteAt s.pc ∈ undefinedCodes →
      step s = .fault (.undefinedOpcode (s.byteAt s.pc) s.pc)) ∧
    (∀ (code : Byte) (pc : Word), step s = .fault (.undefinedOpcode code pc) →
      s.inMemory s.pc ∧ code = s.byteAt s.pc ∧ code ∈ undefinedCodes ∧ pc = s.pc)

/-- R222, R59 (the MemFault policy is the spec's decision D4): a MemFault is an access of the step outside memory. -/
def Obligations.MemFaultNamesAnAccessOutsideMemory : Prop :=
  ∀ (s : State) (addr : Word) (kind : AccessKind), step s = .fault (.memFault addr kind) →
    ¬ s.inMemory addr ∧
    match kind with
    | .fetch => addr = s.pc
    | .imm => addr = s.pc + 1#16 ∨ addr = s.pc + 2#16
    | .read => ∃ i, fetch s = .ok i ∧ i.dataRead s = some addr
    | .write => ∃ i, fetch s = .ok i ∧ i.dataWrite s = some addr

/-- R54, R224: with every address valid there is no MemFault, and no other fault than UndefinedOpcode. -/
def Obligations.FullMemoryHasNoMemFault : Prop :=
  ∀ s : State, s.cfg.memSize = 65536 →
    (∀ (addr : Word) (kind : AccessKind), step s ≠ .fault (.memFault addr kind)) ∧
    (∀ fault, step s = .fault fault → fault = .undefinedOpcode (s.byteAt s.pc) s.pc)

/-- R223: no program can raise InvariantViolation; and every instruction of the map has a meaning. -/
def Obligations.StepNeverRefusesOrBreaksAContract : Prop :=
  ∀ s : State, (∀ why, step s ≠ .refused why) ∧ (∀ what, step s ≠ .fault (.invariantViolation what))

/-- An invariant that every step keeps, from every state that meets it (R8, R51). -/
def Obligations.StepKeepsInvariant : Prop :=
  ∀ s t : State, s.inv = true → step s = .next t → t.inv = true ∧ t.cfg = s.cfg

/-- R250, R251: reset is construction; its zeros are the model's choice (log entries 1, 2, 4, 5). -/
def Obligations.ResetMeetsInvariant : Prop :=
  State.reset.inv = true ∧ State.construct Config.standard Init.zero = State.reset

/-- R11, R251, R252 (decisions D3, D11): every register and memory byte after construction comes from INIT, with F[3:0] = 0. What a byte
that INIT does not give reads as is the model's choice (log entry 4, DESIGN CHOICE). -/
def Obligations.ConstructionTakesInit : Prop :=
  ∀ (cfg : Config) (init : Init), cfg.wf = true →
    let s := State.construct cfg init
    s.inv = true ∧ s.cfg = cfg ∧ s.a = init.a ∧ s.f = init.f ∧ s.b = init.b ∧ s.c = init.c ∧ s.d = init.d ∧ s.e = init.e ∧
      s.h = init.h ∧ s.l = init.l ∧ s.sp = init.sp ∧ s.pc = init.pc ∧ s.getR8 .f &&& 0x0F#8 = 0#8 ∧
      ∀ addr : Word, s.inMemory addr → s.byteAt addr = lastByteAt init.bytes addr.toNat

/-- R26, R59, R60: the only byte a step changes is the one the instruction stores. -/
def Obligations.StepWritesMemoryOnlyAtDataWrite : Prop :=
  ∀ s t : State, step s = .next t →
    ∃ i, fetch s = .ok i ∧ ∀ addr : Word, i.dataWrite s ≠ some addr → t.byteAt addr = s.byteAt addr

/-- R26, R27 over all instructions: a flag not named keeps its value. -/
def Obligations.OnlyFlagWritersChangeFlags : Prop :=
  ∀ (i : Instr) (s t : State) (name : FlagName), exec i s = .next t → name ∉ flagsWritten i → t.flag name = s.flag name

/-- R27: "No instruction in scope reads Z, N or Hf", as noninterference over all instructions. Which instructions read Cy is the
spec's decisions D23 (ADC, SBC) and D22 (RLA, RRA, not RLCA, RRCA): log entry 11, PRESUMED. -/
def Obligations.FlagsOtherThanCarryAreNotRead : Prop :=
  ∀ (i : Instr) (s : State) (f : Flags), (readsCarry i = true → f.cy = s.f.cy) →
    (∀ t, exec i s = .next t → ∃ u, exec i { s with f := f } = .next u ∧
      (∀ r : Reg8, r ≠ .f → u.getR8 r = t.getR8 r) ∧ u.sp = t.sp ∧ u.pc = t.pc ∧ MemSame t u ∧
      (∀ name : FlagName, name ∈ flagsWritten i → u.flag name = t.flag name)) ∧
    (∀ fault, exec i s = .fault fault → exec i { s with f := f } = .fault fault)

/-- R30, R34: no other instruction reads, writes or addresses memory through SP. -/
def Obligations.StackPointerIsData : Prop :=
  ∀ (i : Instr) (s : State) (v : Word),
    (∀ n, i ≠ .ldSP_Imm n) → i ≠ .incSP → i ≠ .decSP → i ≠ .addHL_SP →
    exec i { s with sp := v } = mapNext (fun t => { t with sp := v }) (exec i s)

/-- R22 (decision D1, log entry 3): "SP and the 8-bit instructions that do not address memory do not" depend on PAIR_ORDER. -/
def Obligations.PairOrderIsSeenByPairUsersOnly : Prop :=
  ∀ (i : Instr) (s : State) (order : PairOrder), usesPair i = false →
    exec i { s with cfg := { s.cfg with pairOrder := order } } =
      mapNext (fun t => { t with cfg := { t.cfg with pairOrder := order } }) (exec i s)

/-- R67, R258: a store is seen by the very next opcode fetch, with no fence. -/
def Obligations.StoreIsSeenByTheNextFetch : Prop :=
  ∀ (s : State) (n : Byte), fetch s = .ok (.ldIndHL_Imm n) → s.getPair .hl = s.pc + 2#16 → s.inMemory (s.pc + 2#16) →
    ∃ t, step s = .next t ∧ t.pc = s.pc + 2#16 ∧ t.byteAt t.pc = n ∧
      (∀ i, decodeOpcode n = some (.op i) → fetch t = .ok i) ∧
      (decodeOpcode n = none → step t = .fault (.undefinedOpcode n t.pc))

/-- R205, R239: an endless region of NOP runs for ever under a driver that keeps stepping. -/
def Obligations.NopMemoryRunsWithoutEnd : Prop :=
  ∀ (k : Nat) (s : State), s.cfg.memSize = 65536 → (∀ addr : Word, s.byteAt addr = 0x00#8) →
    Sys2Proof.core.run k s = .next { s with pc := s.pc + BitVec.ofNat 16 k }

/-- R260, R261 (decision D25, log entry 8): the cycle count is an output of a successful step and of no other. -/
def Obligations.StepReportsItsCycles : Prop :=
  ∀ s : State,
    (∀ (t : State) (n : Nat), stepWithCycles s = .next (t, n) ↔
      step s = .next t ∧ ∃ i, fetch s = .ok i ∧ n = i.cycles ∧ (n = 4 ∨ n = 8 ∨ n = 12)) ∧
    (∀ fault, stepWithCycles s = .fault fault ↔ step s = .fault fault)

/-- Placing a program's bytes at PC makes the next step run them. withFetchWord is the model's choice (log entry 5, DESIGN CHOICE): it
stands for the load of R240, and for every state because it raises MEM_SIZE where an address of the bytes lies outside memory;
no rule says that. -/
def Obligations.PlacedWordIsFetched : Prop :=
  ∀ (s : State) (nbits w : Nat) (i : Instr), decodeTableWord nbits w = some i →
    fetch (s.withFetchWord nbits w) = .ok i ∧ (s.withFetchWord nbits w).pc = s.pc ∧
      (s.withFetchWord nbits w).sp = s.sp ∧
      ∀ r : Reg8, (s.withFetchWord nbits w).getR8 r = s.getR8 r

/-- R23, under either order of R22: the pair view and its cells are one storage; a write of F loses its low bits (R25). Which cell is
the high byte is decision D1 (log entry 3), and F's low bits are decision D2 (log entry 6). -/
def Obligations.PairViewsAliasTheirCells : Prop :=
  ∀ (s : State) (p : Pair) (v : Word),
    let hi := p.high s.cfg.pairOrder
    let lo := p.low s.cfg.pairOrder
    (s.cfg.pairOrder = .highFirst → hi = p.first ∧ lo = p.second) ∧
    (s.cfg.pairOrder = .lowFirst → hi = p.second ∧ lo = p.first) ∧
    (s.getPair p).toNat = (s.getR8 hi).toNat * 256 + (s.getR8 lo).toNat ∧
    (hi ≠ .f → ((s.setPair p v).getR8 hi).toNat = v.toNat / 256) ∧
    (lo ≠ .f → ((s.setPair p v).getR8 lo).toNat = v.toNat % 256) ∧
    (hi = .f → ((s.setPair p v).getR8 hi).toNat = v.toNat / 256 / 16 * 16) ∧
    (lo = .f → ((s.setPair p v).getR8 lo).toNat = v.toNat % 256 / 16 * 16) ∧
    (∀ r : Reg8, r ≠ hi → r ≠ lo → (s.setPair p v).getR8 r = s.getR8 r) ∧
    (s.setPair p v).sp = s.sp ∧ (s.setPair p v).pc = s.pc ∧
    (∀ b : Byte, hi ≠ .f → ((s.setR8 hi b).getPair p).toNat = b.toNat * 256 + (s.getR8 lo).toNat) ∧
    (∀ b : Byte, lo ≠ .f → ((s.setR8 lo b).getPair p).toNat = (s.getR8 hi).toNat * 256 + b.toNat) ∧
    (∀ b : Byte, hi = .f → ((s.setR8 hi b).getPair p).toNat = b.toNat / 16 * 16 * 256 + (s.getR8 lo).toNat) ∧
    (∀ b : Byte, lo = .f → ((s.setR8 lo b).getPair p).toNat = (s.getR8 hi).toNat * 256 + b.toNat / 16 * 16)

/-- R25 (decision D2, log entry 6): F = {Z, N, Hf, Cy, 0, 0, 0, 0}, its low bits hardwired. -/
def Obligations.FlagRegisterLowBitsAreZero : Prop :=
  ∀ s : State,
    (s.getR8 .f).toNat =
      128 * (s.flag .z).toNat + 64 * (s.flag .n).toNat + 32 * (s.flag .hf).toNat + 16 * (s.flag .cy).toNat ∧
    (∀ v : Byte, (s.setR8 .f v).getR8 .f = v &&& 0xF0#8) ∧
    (∀ v : Word, (s.setPair .af v).getR8 .f &&& 0x0F#8 = 0#8)

/-- R160 (the axes of the code are the spec's decision D19, log entry 11): all 49 forms, d = s among them. -/
def Obligations.LdRegisterFromRegister : Prop :=
  ∀ code i dst src, (code, i, dst, src) ∈ registerLoads →
    EncodedAs i [code] ∧ i.cycles = 4 ∧
    ∀ s : State, ∃ t, exec i s = .next t ∧ t.getR8 dst = s.getR8 src ∧ Frame [dst] [] false s t ∧ MemSame s t

/-- R161 (code axes: decision D19, log entry 11): LD H,(HL) and LD L,(HL) among them, at the old HL. -/
def Obligations.LdRegisterFromHL : Prop :=
  ∀ code i dst, (code, i, dst) ∈ loadsFromHL →
    EncodedAs i [code] ∧ i.cycles = 8 ∧
    ∀ s : State,
      (s.inMemory (s.getPair .hl) → ∃ t, exec i s = .next t ∧ t.getR8 dst = s.byteAt (s.getPair .hl) ∧
        Frame [dst] [] false s t ∧ MemSame s t) ∧
      (¬ s.inMemory (s.getPair .hl) → exec i s = .fault (.memFault (s.getPair .hl) .read))

/-- R162 (code axes: decision D19, log entry 11): LD (HL),H and LD (HL),L, which store a byte of the address, among them. -/
def Obligations.LdHLFromRegister : Prop :=
  ∀ code i src, (code, i, src) ∈ storesToHL →
    EncodedAs i [code] ∧ i.cycles = 8 ∧
    ∀ s : State,
      (s.inMemory (s.getPair .hl) → ∃ t, exec i s = .next t ∧ t.byteAt (s.getPair .hl) = s.getR8 src ∧
        Frame [] [] false s t ∧ MemSameExcept (s.getPair .hl) s t) ∧
      (¬ s.inMemory (s.getPair .hl) → exec i s = .fault (.memFault (s.getPair .hl) .write))

/-- R163, R86 (decision D5, log entry 7: d8 is at PC + 1). -/
def Obligations.LdRegisterFromImmediate : Prop :=
  ∀ code mk dst, (code, mk, dst) ∈ immediateLoads →
    TakesImm8 code mk ∧
    ∀ n : Byte, EncodedAs (mk n) [code, n] ∧ (mk n).cycles = 8 ∧ (mk n).length = 2 ∧
      ∀ s : State, ∃ t, exec (mk n) s = .next t ∧ t.getR8 dst = n ∧ Frame [dst] [] false s t ∧ MemSame s t

/-- R164, R86 (decision D5, log entry 7: d8 is at PC + 1). -/
def Obligations.LdHLFromImmediate : Prop :=
  TakesImm8 0x36#8 Instr.ldIndHL_Imm ∧
  ∀ n : Byte, EncodedAs (.ldIndHL_Imm n) [0x36#8, n] ∧ (Instr.ldIndHL_Imm n).cycles = 12 ∧ (Instr.ldIndHL_Imm n).length = 2 ∧
    ∀ s : State,
      (s.inMemory (s.getPair .hl) → ∃ t, exec (.ldIndHL_Imm n) s = .next t ∧ t.byteAt (s.getPair .hl) = n ∧
        Frame [] [] false s t ∧ MemSameExcept (s.getPair .hl) s t) ∧
      (¬ s.inMemory (s.getPair .hl) → exec (.ldIndHL_Imm n) s = .fault (.memFault (s.getPair .hl) .write))

/-- R165, R166: the pair is not changed. -/
def Obligations.StoreAccumulatorAtPair : Prop :=
  ∀ code i p, (code, i, p) ∈ storesOfA →
    EncodedAs i [code] ∧ i.cycles = 8 ∧
    ∀ s : State,
      (s.inMemory (s.getPair p) → ∃ t, exec i s = .next t ∧ t.byteAt (s.getPair p) = s.a ∧
        Frame [] [] false s t ∧ MemSameExcept (s.getPair p) s t) ∧
      (¬ s.inMemory (s.getPair p) → exec i s = .fault (.memFault (s.getPair p) .write))

/-- R167, R168: the pair is not changed. -/
def Obligations.LoadAccumulatorFromPair : Prop :=
  ∀ code i p, (code, i, p) ∈ loadsOfA →
    EncodedAs i [code] ∧ i.cycles = 8 ∧
    ∀ s : State,
      (s.inMemory (s.getPair p) → ∃ t, exec i s = .next t ∧ t.a = s.byteAt (s.getPair p) ∧
        Frame [.a] [] false s t ∧ MemSame s t) ∧
      (¬ s.inMemory (s.getPair p) → exec i s = .fault (.memFault (s.getPair p) .read))

/-- R169, R170: the store is at HL before its step; HL = 0xFFFF and 0x0000 wrap. -/
def Obligations.StoreAccumulatorAndStepHL : Prop :=
  ∀ code i delta, (code, i, delta) ∈ steppingStores →
    EncodedAs i [code] ∧ i.cycles = 8 ∧
    ∀ s : State,
      (s.inMemory (s.getPair .hl) → ∃ t, exec i s = .next t ∧ t.byteAt (s.getPair .hl) = s.a ∧
        t.getPair .hl = s.getPair .hl + delta ∧ Frame [.h, .l] [] false s t ∧ MemSameExcept (s.getPair .hl) s t) ∧
      (¬ s.inMemory (s.getPair .hl) → exec i s = .fault (.memFault (s.getPair .hl) .write))

/-- R171, R172: the read is at HL before its step; a fault leaves A and HL alone, since a fault carries no state. -/
def Obligations.LoadAccumulatorAndStepHL : Prop :=
  ∀ code i delta, (code, i, delta) ∈ steppingLoads →
    EncodedAs i [code] ∧ i.cycles = 8 ∧
    ∀ s : State,
      (s.inMemory (s.getPair .hl) → ∃ t, exec i s = .next t ∧ t.a = s.byteAt (s.getPair .hl) ∧
        t.getPair .hl = s.getPair .hl + delta ∧ Frame [.a, .h, .l] [] false s t ∧ MemSame s t) ∧
      (¬ s.inMemory (s.getPair .hl) → exec i s = .fault (.memFault (s.getPair .hl) .read))

/-- R173, R87 (decisions D5, D7, log entry 7: the bytes are at PC + 1 and PC + 2, low byte first). -/
def Obligations.LdRegister16FromImmediate : Prop :=
  ∀ code mk r, (code, mk, r) ∈ immediateLoads16 →
    TakesImm16 code mk ∧
    ∀ n : Word, EncodedAs (mk n) [code, BitVec.ofNat 8 (n.toNat % 256), BitVec.ofNat 8 (n.toNat / 256)] ∧
      (mk n).cycles = 12 ∧ (mk n).length = 3 ∧
      ∀ s : State, ∃ t, exec (mk n) s = .next t ∧ t.getR16 r = n ∧
        Frame (cellsOf r) [] (r = .sp) s t ∧ MemSame s t

/-- R180: 0xFFFF becomes 0x0000, and no flag records it. -/
def Obligations.IncRegister16 : Prop :=
  ∀ code i r, (code, i, r) ∈ increments16 →
    EncodedAs i [code] ∧ i.cycles = 8 ∧
    ∀ s : State, ∃ t, exec i s = .next t ∧ (t.getR16 r).toNat = ((s.getR16 r).toNat + 1) % 65536 ∧
      Frame (cellsOf r) [] (r = .sp) s t ∧ MemSame s t

/-- R181: 0x0000 becomes 0xFFFF, and no flag records it. -/
def Obligations.DecRegister16 : Prop :=
  ∀ code i r, (code, i, r) ∈ decrements16 →
    EncodedAs i [code] ∧ i.cycles = 8 ∧
    ∀ s : State, ∃ t, exec i s = .next t ∧ (t.getR16 r).toNat = ((s.getR16 r).toNat + 65535) % 65536 ∧
      Frame (cellsOf r) [] (r = .sp) s t ∧ MemSame s t

/-- R182 (codes: decision D20, log entry 11). -/
def Obligations.IncRegister8 : Prop :=
  ∀ code i r, (code, i, r) ∈ increments8 →
    EncodedAs i [code] ∧ i.cycles = 4 ∧
    ∀ s : State, ∃ t, exec i s = .next t ∧ (t.getR8 r).toNat = ((s.getR8 r).toNat + 1) % 256 ∧
      FlagsAre t (decide (t.getR8 r = 0#8)) false (decide ((s.getR8 r).toNat % 16 = 15)) (s.flag .cy) ∧
      Frame [r] [.z, .n, .hf] false s t ∧ MemSame s t

/-- R184 (codes: decision D20, log entry 11). -/
def Obligations.DecRegister8 : Prop :=
  ∀ code i r, (code, i, r) ∈ decrements8 →
    EncodedAs i [code] ∧ i.cycles = 4 ∧
    ∀ s : State, ∃ t, exec i s = .next t ∧ (t.getR8 r).toNat = ((s.getR8 r).toNat + 255) % 256 ∧
      FlagsAre t (decide (t.getR8 r = 0#8)) true (decide ((s.getR8 r).toNat % 16 = 0)) (s.flag .cy) ∧
      Frame [r] [.z, .n, .hf] false s t ∧ MemSame s t

/-- R183, R130 (code: decision D20, log entry 11): it steps the byte pointed to, not the pointer. -/
def Obligations.IncByteAtHL : Prop :=
  EncodedAs .incIndHL [0x34#8] ∧ Instr.incIndHL.cycles = 12 ∧
  ∀ s : State,
    (s.inMemory (s.getPair .hl) → ∃ t, exec .incIndHL s = .next t ∧
      (t.byteAt (s.getPair .hl)).toNat = ((s.byteAt (s.getPair .hl)).toNat + 1) % 256 ∧
      FlagsAre t (decide (t.byteAt (s.getPair .hl) = 0#8)) false
        (decide ((s.byteAt (s.getPair .hl)).toNat % 16 = 15)) (s.flag .cy) ∧
      Frame [] [.z, .n, .hf] false s t ∧ MemSameExcept (s.getPair .hl) s t) ∧
    (¬ s.inMemory (s.getPair .hl) → exec .incIndHL s = .fault (.memFault (s.getPair .hl) .read))

/-- R185, R130 (code: decision D20, log entry 11): it steps the byte pointed to, not the pointer. -/
def Obligations.DecByteAtHL : Prop :=
  EncodedAs .decIndHL [0x35#8] ∧ Instr.decIndHL.cycles = 12 ∧
  ∀ s : State,
    (s.inMemory (s.getPair .hl) → ∃ t, exec .decIndHL s = .next t ∧
      (t.byteAt (s.getPair .hl)).toNat = ((s.byteAt (s.getPair .hl)).toNat + 255) % 256 ∧
      FlagsAre t (decide (t.byteAt (s.getPair .hl) = 0#8)) true
        (decide ((s.byteAt (s.getPair .hl)).toNat % 16 = 0)) (s.flag .cy) ∧
      Frame [] [.z, .n, .hf] false s t ∧ MemSameExcept (s.getPair .hl) s t) ∧
    (¬ s.inMemory (s.getPair .hl) → exec .decIndHL s = .fault (.memFault (s.getPair .hl) .read))

/-- R190, R198 (the spec's decisions D21, log entry 11). -/
def Obligations.AddToAccumulator : Prop :=
  ∀ code i src, (code, i, src) ∈ addRows →
    AluRuns code i src (fun s v t =>
      (t.a).toNat = (s.a.toNat + v.toNat) % 256 ∧
        FlagsAre t (decide (t.a = 0#8)) false (decide (s.a.toNat % 16 + v.toNat % 16 > 15)) (decide (s.a.toNat + v.toNat > 255)))

/-- R191, R198 (the spec's decisions D21, D23, log entry 11). -/
def Obligations.AdcToAccumulator : Prop :=
  ∀ code i src, (code, i, src) ∈ adcRows →
    AluRuns code i src (fun s v t =>
      (t.a).toNat = (s.a.toNat + v.toNat + (s.flag .cy).toNat) % 256 ∧
        FlagsAre t (decide (t.a = 0#8)) false
          (decide (s.a.toNat % 16 + v.toNat % 16 + (s.flag .cy).toNat > 15))
          (decide (s.a.toNat + v.toNat + (s.flag .cy).toNat > 255)))

/-- R192, R198 (the spec's decisions D21, log entry 11). -/
def Obligations.SubToAccumulator : Prop :=
  ∀ code i src, (code, i, src) ∈ subRows →
    AluRuns code i src (fun s v t =>
      (t.a).toNat = (s.a.toNat + 256 - v.toNat) % 256 ∧
        FlagsAre t (decide (t.a = 0#8)) true (decide (s.a.toNat % 16 < v.toNat % 16)) (decide (s.a.toNat < v.toNat)))

/-- R193, R198 (the spec's decisions D21, D13, D23, log entry 11). -/
def Obligations.SbcToAccumulator : Prop :=
  ∀ code i src, (code, i, src) ∈ sbcRows →
    AluRuns code i src (fun s v t =>
      (t.a).toNat = (s.a.toNat + 512 - v.toNat - (s.flag .cy).toNat) % 256 ∧
        FlagsAre t (decide (t.a = 0#8)) true
          (decide (s.a.toNat % 16 < v.toNat % 16 + (s.flag .cy).toNat))
          (decide (s.a.toNat < v.toNat + (s.flag .cy).toNat)))

/-- R194, R198 (the spec's decisions D21, log entry 11). -/
def Obligations.AndToAccumulator : Prop :=
  ∀ code i src, (code, i, src) ∈ andRows →
    AluRuns code i src (fun s v t =>
      t.a = s.a &&& v ∧
        FlagsAre t (decide (t.a = 0#8)) false true false)

/-- R195, R198 (the spec's decisions D21, log entry 11). -/
def Obligations.XorToAccumulator : Prop :=
  ∀ code i src, (code, i, src) ∈ xorRows →
    AluRuns code i src (fun s v t =>
      t.a = s.a ^^^ v ∧
        FlagsAre t (decide (t.a = 0#8)) false false false)

/-- R196, R198 (the spec's decisions D21, log entry 11). -/
def Obligations.OrToAccumulator : Prop :=
  ∀ code i src, (code, i, src) ∈ orRows →
    AluRuns code i src (fun s v t =>
      t.a = s.a ||| v ∧
        FlagsAre t (decide (t.a = 0#8)) false false false)

/-- R197, R198 (the spec's decisions D21, D12, log entry 11). -/
def Obligations.CompareWithAccumulator : Prop :=
  ∀ code i src, (code, i, src) ∈ cpRows →
    AluRuns code i src (fun s v t =>
      t.a = s.a ∧
        FlagsAre t (decide (s.a = v)) true (decide (s.a.toNat % 16 < v.toNat % 16)) (decide (s.a.toNat < v.toNat)))

/-- R200, R122: Z is not written; ADD HL,HL reads the old HL twice. Hf as the carry out of bit 11 is how the spec settles conflict C2
(log entry 11). -/
def Obligations.AddToHL : Prop :=
  ∀ code i r, (code, i, r) ∈ addsToHL →
    EncodedAs i [code] ∧ i.cycles = 8 ∧
    ∀ s : State, ∃ t, exec i s = .next t ∧
      (t.getPair .hl).toNat = ((s.getPair .hl).toNat + (s.getR16 r).toNat) % 65536 ∧
      FlagsAre t (s.flag .z) false (decide ((s.getPair .hl).toNat % 4096 + (s.getR16 r).toNat % 4096 > 4095))
        (decide ((s.getPair .hl).toNat + (s.getR16 r).toNat > 65535)) ∧
      Frame [.h, .l] [.n, .hf, .cy] false s t ∧ MemSame s t

/-- R201, R203 (the bit movement is the spec's decision D22, log entry 11). -/
def Obligations.RotateAccumulatorCircular : Prop :=
  (EncodedAs .rlca [0x07#8] ∧ Instr.rlca.cycles = 4 ∧
    ∀ s : State, ∃ t, exec .rlca s = .next t ∧ (t.a).toNat = s.a.toNat * 2 % 256 + s.a.toNat / 128 ∧
      FlagsAre t false false false (decide (s.a.toNat / 128 = 1)) ∧
      Frame [.a] [.z, .n, .hf, .cy] false s t ∧ MemSame s t) ∧
  (EncodedAs .rrca [0x0F#8] ∧ Instr.rrca.cycles = 4 ∧
    ∀ s : State, ∃ t, exec .rrca s = .next t ∧ (t.a).toNat = s.a.toNat / 2 + s.a.toNat % 2 * 128 ∧
      FlagsAre t false false false (decide (s.a.toNat % 2 = 1)) ∧
      Frame [.a] [.z, .n, .hf, .cy] false s t ∧ MemSame s t)

/-- R202, R204 (the bit movement is the spec's decision D22, log entry 11). -/
def Obligations.RotateAccumulatorThroughCarry : Prop :=
  (EncodedAs .rla [0x17#8] ∧ Instr.rla.cycles = 4 ∧
    ∀ s : State, ∃ t, exec .rla s = .next t ∧ (t.a).toNat = s.a.toNat * 2 % 256 + (s.flag .cy).toNat ∧
      FlagsAre t false false false (decide (s.a.toNat / 128 = 1)) ∧
      Frame [.a] [.z, .n, .hf, .cy] false s t ∧ MemSame s t) ∧
  (EncodedAs .rra [0x1F#8] ∧ Instr.rra.cycles = 4 ∧
    ∀ s : State, ∃ t, exec .rra s = .next t ∧ (t.a).toNat = s.a.toNat / 2 + (s.flag .cy).toNat * 128 ∧
      FlagsAre t false false false (decide (s.a.toNat % 2 = 1)) ∧
      Frame [.a] [.z, .n, .hf, .cy] false s t ∧ MemSame s t)

/-- R205: nothing is written; at PC = 0xFFFF the next PC is 0x0000. -/
def Obligations.NopChangesOnlyPc : Prop :=
  EncodedAs .nop [0x00#8] ∧ Instr.nop.cycles = 4 ∧ (∀ s : State, exec .nop s = .next s) ∧
  (∀ s : State, fetch s = .ok .nop → step s = .next { s with pc := s.pc + 1#16 })

/-- The corner case of R202 (decision D22, log entry 11): RLA rotates nine bits, A and Cy. -/
def Obligations.NineRotatesThroughCarryRestore : Prop :=
  ∀ s : State, ∃ t, execTimes .rla 9 s = .next t ∧ t.a = s.a ∧ t.flag .cy = s.flag .cy

/-- The round trip of R192 (property V-P2), as a program of two instructions. -/
def Obligations.SubtractThenAddRestores : Prop :=
  ∀ codeS sub codeA add r, (codeS, sub, ByteSource.reg r) ∈ subRows → (codeA, add, ByteSource.reg r) ∈ addRows → r ≠ .a →
    ∀ s : State, ∃ t u, exec sub s = .next t ∧ exec add t = .next u ∧ u.a = s.a ∧ u.flag .cy = t.flag .cy

/-- Conflict C1, as the spec resolves it (R121, decision D13, log entry 11). -/
def Obligations.HalfBorrowIsTheStandardOne : Prop :=
  ∀ (a b : Byte) (cin : Bool),
    ((sub8 a b cin).half ≠ decide (a.toNat % 16 < (b.toNat + cin.toNat) % 16) ↔ cin = true ∧ b.toNat % 16 = 15) ∧
    (cin = true → b.toNat % 16 = 15 → (sub8 a b cin).half = true)

/-- R240: the driver writes state between steps only, and never breaks the invariant. -/
def Obligations.DriverKeepsInvariant : Prop :=
  ∀ (action : DriverAction) (s t : State), s.inv = true → driverWrite action s = .ok t → t.inv = true ∧ t.cfg = s.cfg

/-- R240, R25, R133 (decisions D30, D2, D1): what the driver may set between steps. That a write outside memory reports MemFault and
that a load then writes nothing is the model's reading (log entry 13, DEDUCED); that InvariantViolation is kept is its choice
(log entry 10, DESIGN CHOICE, decision D31). -/
def Obligations.DriverWritesWhatItNames : Prop :=
  ∀ s : State,
    (∀ r v, ∃ t, driverWrite (.setReg8 r v) s = .ok t ∧ t.getR8 r = (if r = .f then v &&& 0xF0#8 else v) ∧
      (∀ other : Reg8, other ≠ r → t.getR8 other = s.getR8 other) ∧ t.sp = s.sp ∧ t.pc = s.pc ∧ MemSame s t) ∧
    (∀ v, driverWrite (.setSp v) s = .ok { s with sp := v }) ∧ (∀ v, driverWrite (.setPc v) s = .ok { s with pc := v }) ∧
    (∀ name v, ∃ t, driverWrite (.setFlag name v) s = .ok t ∧ t.flag name = v ∧
      (∀ other : FlagName, other ≠ name → t.flag other = s.flag other) ∧
      (∀ r : Reg8, r ≠ .f → t.getR8 r = s.getR8 r) ∧ t.sp = s.sp ∧ t.pc = s.pc ∧ MemSame s t) ∧
    (∀ addr v, s.inMemory addr → ∃ t, driverWrite (.setByte addr v) s = .ok t ∧ t.byteAt addr = v ∧ MemSameExcept addr s t ∧
      (∀ r : Reg8, t.getR8 r = s.getR8 r) ∧ t.sp = s.sp ∧ t.pc = s.pc) ∧
    (∀ addr v, ¬ s.inMemory addr → driverWrite (.setByte addr v) s = .error (.memFault addr .write)) ∧
    (∀ r index v, 8 ≤ index → driverWrite (.setBit r index v) s = .error (.invariantViolation .bitIndex)) ∧
    (∀ p v, ∃ t, driverWrite (.setPair p v) s = .ok t ∧
      (let hi := p.high s.cfg.pairOrder
       let lo := p.low s.cfg.pairOrder
       (t.getR8 hi).toNat = (if hi = .f then v.toNat / 256 / 16 * 16 else v.toNat / 256) ∧
       (t.getR8 lo).toNat = (if lo = .f then v.toNat % 256 / 16 * 16 else v.toNat % 256) ∧
       ∀ r : Reg8, r ≠ hi → r ≠ lo → t.getR8 r = s.getR8 r) ∧
      t.sp = s.sp ∧ t.pc = s.pc ∧ MemSame s t) ∧
    (∀ r index v, index < 8 → ∃ t, driverWrite (.setBit r index v) s = .ok t ∧
      (∀ k : Nat, k < 8 → (t.getR8 r).getLsbD k =
        if k = index ∧ ¬ (r = .f ∧ k < 4) then v else (s.getR8 r).getLsbD k) ∧
      (∀ other : Reg8, other ≠ r → t.getR8 other = s.getR8 other) ∧ t.sp = s.sp ∧ t.pc = s.pc ∧ MemSame s t) ∧
    (∀ addr bytes, (∀ k, k < bytes.length → s.inMemory (loadAddress addr k)) →
      ∃ t, driverWrite (.load addr bytes) s = .ok t ∧
        (∀ k (hk : k < bytes.length),
          (∀ later, k < later → later < bytes.length → loadAddress addr later ≠ loadAddress addr k) →
          t.byteAt (loadAddress addr k) = bytes[k]) ∧
        (∀ a : Word, (∀ k, k < bytes.length → a ≠ loadAddress addr k) → t.byteAt a = s.byteAt a) ∧
        (∀ r : Reg8, t.getR8 r = s.getR8 r) ∧ t.sp = s.sp ∧ t.pc = s.pc) ∧
    (∀ addr bytes k, k < bytes.length → (∀ j, j < k → s.inMemory (loadAddress addr j)) →
      ¬ s.inMemory (loadAddress addr k) →
      driverWrite (.load addr bytes) s = .error (.memFault (loadAddress addr k) .write))
end

