-- ==== Sys2Proof/Laws/State.lean ====
section
/-! SUPPORT. What each state update does to each part of the state, so that no later proof unfolds a record update. -/

namespace Sys2Proof.Machine

/-! ### Bytes of a word (R55) -/

@[simp] theorem fromBytes_lsb_msb (v : Word) : fromBytes (lsb v) (msb v) = v := by
  unfold fromBytes lsb msb
  ext i hi
  simp only [BitVec.getElem_append, BitVec.getElem_extractLsb']
  split <;> simp_all [BitVec.getLsbD_eq_getElem]

@[simp] theorem lsb_fromBytes (lo hi : Byte) : lsb (fromBytes lo hi) = lo := by
  unfold fromBytes lsb
  ext i h
  rw [BitVec.getElem_extractLsb']
  show (hi ++ lo : BitVec (8 + 8)).getLsbD (0 + i) = lo[i]
  rw [BitVec.getLsbD_append]
  simp [h]

@[simp] theorem msb_fromBytes (lo hi : Byte) : msb (fromBytes lo hi) = hi := by
  unfold fromBytes msb
  ext i h
  rw [BitVec.getElem_extractLsb']
  show (hi ++ lo : BitVec (8 + 8)).getLsbD (8 + i) = hi[i]
  rw [BitVec.getLsbD_append]
  simp [BitVec.getLsbD_eq_getElem, h]

/-! ### Flags and F (R25) -/

@[simp] theorem Flags.ofByte_toByte (f : Flags) : Flags.ofByte f.toByte = f := by
  obtain ⟨z, n, hf, cy⟩ := f
  cases z <;> cases n <;> cases hf <;> cases cy <;> rfl

theorem Flags.toByte_ofByte (v : Byte) : (Flags.ofByte v).toByte = v &&& 0xF0#8 := by
  revert v; decide

section
variable (s : State) (z n hf cy : Bool)
@[simp] theorem setFlags_f : (s.setFlags z n hf cy).f = { z := z, n := n, hf := hf, cy := cy } := rfl
@[simp] theorem setFlags_cfg : (s.setFlags z n hf cy).cfg = s.cfg := rfl
@[simp] theorem setFlags_sp : (s.setFlags z n hf cy).sp = s.sp := rfl
@[simp] theorem setFlags_pc : (s.setFlags z n hf cy).pc = s.pc := rfl
@[simp] theorem setFlags_mem : (s.setFlags z n hf cy).mem = s.mem := rfl
@[simp] theorem setFlags_byteAt (addr : Word) : (s.setFlags z n hf cy).byteAt addr = s.byteAt addr := rfl

theorem setFlags_getR8 (r : Reg8) (hr : r ≠ .f) : (s.setFlags z n hf cy).getR8 r = s.getR8 r := by
  cases r <;> first | rfl | exact absurd rfl hr

theorem setFlags_getPair (p : Pair) (hp : p ≠ .af) : (s.setFlags z n hf cy).getPair p = s.getPair p := by
  cases p <;> first | exact absurd rfl hp | (simp only [State.getPair, setFlags_cfg]; cases s.cfg.pairOrder <;> rfl)
end

section
variable (s : State) (name : FlagName) (v : Bool)
@[simp] theorem setFlag_cfg : (s.setFlag name v).cfg = s.cfg := by cases name <;> rfl
@[simp] theorem setFlag_sp : (s.setFlag name v).sp = s.sp := by cases name <;> rfl
@[simp] theorem setFlag_pc : (s.setFlag name v).pc = s.pc := by cases name <;> rfl
@[simp] theorem setFlag_mem : (s.setFlag name v).mem = s.mem := by cases name <;> rfl

theorem flag_setFlag (other : FlagName) :
    (s.setFlag name v).flag other = if other = name then v else s.flag other := by
  cases name <;> cases other <;> rfl
end

/-! ### 8-bit cells (R20) -/

section
variable (s : State) (r : Reg8) (v : Byte)
@[simp] theorem setR8_cfg : (s.setR8 r v).cfg = s.cfg := by cases r <;> rfl
@[simp] theorem setR8_sp : (s.setR8 r v).sp = s.sp := by cases r <;> rfl
@[simp] theorem setR8_pc : (s.setR8 r v).pc = s.pc := by cases r <;> rfl
@[simp] theorem setR8_mem : (s.setR8 r v).mem = s.mem := by cases r <;> rfl
@[simp] theorem setR8_byteAt (addr : Word) : (s.setR8 r v).byteAt addr = s.byteAt addr := by cases r <;> rfl

theorem setR8_f (hr : r ≠ .f) : (s.setR8 r v).f = s.f := by
  cases r <;> first | rfl | exact absurd rfl hr

theorem getR8_setR8_self (hr : r ≠ .f) : (s.setR8 r v).getR8 r = v := by
  cases r <;> first | rfl | exact absurd rfl hr

theorem getR8_setR8_f : (s.setR8 .f v).getR8 .f = v &&& 0xF0#8 := Flags.toByte_ofByte v

theorem getR8_setR8_ne (other : Reg8) (ho : other ≠ r) : (s.setR8 r v).getR8 other = s.getR8 other := by
  cases r <;> cases other <;> first | rfl | exact absurd rfl ho
end

/-! ### Pair views (R22, R23) -/

section
variable (s : State) (p : Pair) (v : Word)
@[simp] theorem setPair_cfg : (s.setPair p v).cfg = s.cfg := by simp [State.setPair]
@[simp] theorem setPair_sp : (s.setPair p v).sp = s.sp := by simp [State.setPair]
@[simp] theorem setPair_pc : (s.setPair p v).pc = s.pc := by simp [State.setPair]
@[simp] theorem setPair_mem : (s.setPair p v).mem = s.mem := by simp [State.setPair]
@[simp] theorem setPair_byteAt (addr : Word) : (s.setPair p v).byteAt addr = s.byteAt addr := by simp [State.setPair]

theorem setPair_f (hp : p ≠ .af) : (s.setPair p v).f = s.f := by
  unfold State.setPair
  cases s.cfg.pairOrder <;> cases p <;> first | rfl | exact absurd rfl hp

theorem setPair_getR8 (r : Reg8) (h1 : r ≠ p.first) (h2 : r ≠ p.second) :
    (s.setPair p v).getR8 r = s.getR8 r := by
  unfold State.setPair
  cases s.cfg.pairOrder <;> simp only [Pair.high, Pair.low] <;>
    rw [getR8_setR8_ne _ _ _ _ (by assumption), getR8_setR8_ne _ _ _ _ (by assumption)]

theorem getPair_setPair (hp : p ≠ .af) : (s.setPair p v).getPair p = v := by
  unfold State.getPair
  rw [setPair_cfg]
  unfold State.setPair
  cases s.cfg.pairOrder <;> cases p <;>
    first | exact absurd rfl hp | exact fromBytes_lsb_msb v
end

/-! ### 16-bit registers (R14) -/

section
variable (s : State) (r : Reg16) (v : Word)
@[simp] theorem setR16_cfg : (s.setR16 r v).cfg = s.cfg := by cases r <;> simp [State.setR16]
@[simp] theorem setR16_pc : (s.setR16 r v).pc = s.pc := by cases r <;> simp [State.setR16]
@[simp] theorem setR16_mem : (s.setR16 r v).mem = s.mem := by cases r <;> simp [State.setR16]
@[simp] theorem setR16_byteAt (addr : Word) : (s.setR16 r v).byteAt addr = s.byteAt addr := by
  cases r <;> simp [State.setR16, State.byteAt]

theorem getR16_setR16 (hr : r ≠ .pair .af) : (s.setR16 r v).getR16 r = v := by
  cases r with
  | sp => rfl
  | pair p => exact getPair_setPair s p v (fun h => hr (by rw [h]))
end

/-! ### One byte of memory -/

section
variable (s : State) (addr : Word) (v : Byte)
@[simp] theorem storeByte_cfg : (s.storeByte addr v).cfg = s.cfg := rfl
@[simp] theorem storeByte_sp : (s.storeByte addr v).sp = s.sp := rfl
@[simp] theorem storeByte_pc : (s.storeByte addr v).pc = s.pc := rfl
@[simp] theorem storeByte_f : (s.storeByte addr v).f = s.f := rfl
@[simp] theorem storeByte_mem : (s.storeByte addr v).mem = s.mem.write addr.toNat v := rfl
@[simp] theorem storeByte_getR8 (r : Reg8) : (s.storeByte addr v).getR8 r = s.getR8 r := by cases r <;> rfl
@[simp] theorem storeByte_getPair (p : Pair) : (s.storeByte addr v).getPair p = s.getPair p := by
  simp [State.getPair]
end

end Sys2Proof.Machine
end

