-- ==== Sys2Proof/Laws/Memory.lean ====
section
/-! SUPPORT. The memory list: reading after a write, and that a write keeps the canonical form and the bounds. -/

namespace Sys2Proof.Machine

@[simp] theorem Memory.read_erase_self (m : Memory) (addr : Nat) : (m.erase addr).read addr = Memory.unlisted := by
  induction m with
  | nil => rfl
  | cons cell rest ih =>
    unfold Memory.erase at ih ⊢
    by_cases h : cell.1 = addr <;> simp [h, Memory.read, ih]

theorem Memory.read_erase_ne (m : Memory) {addr other : Nat} (h : other ≠ addr) :
    (m.erase addr).read other = m.read other := by
  induction m with
  | nil => rfl
  | cons cell rest ih =>
    unfold Memory.erase at ih ⊢
    by_cases h1 : cell.1 = addr
    · have h2 : ¬ cell.1 = other := fun h3 => h (h3 ▸ h1)
      simp only [h1, List.filter_cons, bne_self_eq_false, Bool.false_eq_true, if_false, Memory.read, ih]
      rw [if_neg (fun h3 => h h3.symm)]
    · simp [h1, Memory.read, ih]

@[simp] theorem Memory.read_insert_self (m : Memory) (addr : Nat) (v : Byte) (h : ∀ cell ∈ m, cell.1 ≠ addr) :
    (m.insert addr v).read addr = v := by
  induction m with
  | nil => simp [Memory.insert, Memory.read]
  | cons cell rest ih =>
    unfold Memory.insert
    split
    · simp [Memory.read]
    · rw [Memory.read, if_neg (h cell (by simp)), ih (fun x hx => h x (by simp [hx]))]

theorem Memory.read_insert_ne (m : Memory) {addr other : Nat} (v : Byte) (h : other ≠ addr) :
    (m.insert addr v).read other = m.read other := by
  induction m with
  | nil => simp [Memory.insert, Memory.read, Ne.symm h]
  | cons cell rest ih =>
    unfold Memory.insert
    split
    · simp [Memory.read, Ne.symm h]
    · simp [Memory.read, ih]

theorem Memory.mem_erase {m : Memory} {addr : Nat} {cell : Host.Cell} :
    cell ∈ m.erase addr ↔ cell ∈ m ∧ cell.1 ≠ addr := by
  simp [Memory.erase]

theorem Memory.mem_insert {m : Memory} {addr : Nat} {v : Byte} {cell : Host.Cell} :
    cell ∈ m.insert addr v ↔ cell = (addr, v) ∨ cell ∈ m := by
  induction m with
  | nil => simp [Memory.insert]
  | cons head rest ih =>
    unfold Memory.insert
    split <;> simp [ih, or_left_comm]

/-- A write, then a read of the same address (R60, R64). It holds of any list, canonical or not. -/
theorem Memory.read_write_self (m : Memory) (addr : Nat) (v : Byte) : (m.write addr v).read addr = v := by
  unfold Memory.write
  split
  · next h => rw [Memory.read_erase_self, h]
  · exact Memory.read_insert_self _ _ _ (fun cell hc => (Memory.mem_erase.mp hc).2)

/-- A write leaves every other address alone (R60). -/
theorem Memory.read_write_ne (m : Memory) {addr other : Nat} (v : Byte) (h : other ≠ addr) :
    (m.write addr v).read other = m.read other := by
  unfold Memory.write
  split
  · exact Memory.read_erase_ne m h
  · rw [Memory.read_insert_ne _ _ h, Memory.read_erase_ne m h]

theorem Memory.wf_cons {cell : Host.Cell} {rest : Memory} :
    Memory.wf (cell :: rest) = true ↔
      cell.2 ≠ Memory.unlisted ∧ (∀ next ∈ rest, cell.1 < next.1) ∧ Memory.wf rest = true := by
  simp [Memory.wf, and_assoc]

theorem Memory.wf_erase {m : Memory} (h : m.wf = true) (addr : Nat) : (m.erase addr).wf = true := by
  induction m with
  | nil => rfl
  | cons cell rest ih =>
    obtain ⟨h1, h2, h3⟩ := Memory.wf_cons.mp h
    by_cases hc : cell.1 = addr
    · have : Memory.erase (cell :: rest) addr = Memory.erase rest addr := by simp [Memory.erase, hc]
      rw [this]; exact ih h3
    · have : Memory.erase (cell :: rest) addr = cell :: Memory.erase rest addr := by simp [Memory.erase, hc]
      rw [this]
      exact Memory.wf_cons.mpr ⟨h1, fun next hn => h2 next (Memory.mem_erase.mp hn).1, ih h3⟩

theorem Memory.wf_insert {m : Memory} (h : m.wf = true) {addr : Nat} {v : Byte} (hv : v ≠ Memory.unlisted)
    (hne : ∀ cell ∈ m, cell.1 ≠ addr) : (m.insert addr v).wf = true := by
  induction m with
  | nil => exact Memory.wf_cons.mpr ⟨hv, by simp, rfl⟩
  | cons cell rest ih =>
    obtain ⟨h1, h2, h3⟩ := Memory.wf_cons.mp h
    unfold Memory.insert
    split
    · next hlt =>
      refine Memory.wf_cons.mpr ⟨hv, fun next hn => ?_, h⟩
      rcases List.mem_cons.mp hn with rfl | hn
      · exact hlt
      · exact Nat.lt_trans hlt (h2 next hn)
    · next hge =>
      refine Memory.wf_cons.mpr ⟨h1, fun next hn => ?_, ih h3 (fun x hx => hne x (by simp [hx]))⟩
      rcases Memory.mem_insert.mp hn with rfl | hn
      · exact Nat.lt_of_le_of_ne (Nat.le_of_not_lt hge) (hne cell (by simp))
      · exact h2 next hn

/-- A write keeps the canonical form. -/
theorem Memory.wf_write {m : Memory} (h : m.wf = true) (addr : Nat) (v : Byte) : (m.write addr v).wf = true := by
  unfold Memory.write
  split
  · exact Memory.wf_erase h addr
  · next hv => exact Memory.wf_insert (Memory.wf_erase h addr) hv (fun cell hc => (Memory.mem_erase.mp hc).2)

theorem Memory.within_iff {m : Memory} {memSize : Nat} :
    m.within memSize = true ↔ ∀ cell ∈ m, cell.1 < memSize := by
  simp [Memory.within]

/-- A write inside memory keeps every listed address inside memory. -/
theorem Memory.within_write {m : Memory} {memSize addr : Nat} (h : m.within memSize = true) (ha : addr < memSize)
    (v : Byte) : (m.write addr v).within memSize = true := by
  rw [Memory.within_iff] at h ⊢
  intro cell hc
  unfold Memory.write at hc
  split at hc
  · exact h cell (Memory.mem_erase.mp hc).1
  · rcases Memory.mem_insert.mp hc with rfl | hc
    · exact ha
    · exact h cell (Memory.mem_erase.mp hc).1

/-- Reading the stored byte back. -/
theorem byteAt_storeByte (s : State) (addr other : Word) (v : Byte) :
    (s.storeByte addr v).byteAt other = if other = addr then v else s.byteAt other := by
  unfold State.byteAt
  split
  · next h => rw [h]; exact Memory.read_write_self _ _ _
  · next h => exact Memory.read_write_ne _ _ (fun h' => h (BitVec.eq_of_toNat_eq h'))

end Sys2Proof.Machine
end

