-- ==== Sys2Proof/Laws/Ops.lean ====
section
/-! SUPPORT. What each shared operation can do: one lemma per operation, cited in place of its definition. -/

namespace Sys2Proof.Machine

/-- A memory read answers the byte exactly inside memory (R52). -/
theorem memRead_eq_ok {s : State} {addr : Word} {kind : AccessKind} {v : Byte} :
    memRead s addr kind = .ok v ↔ s.inMemory addr ∧ v = s.byteAt addr := by
  unfold memRead raise
  split <;> simp_all [eq_comm]

/-- A memory read faults exactly outside memory, naming its address and kind (R52, R222). -/
theorem memRead_eq_error {s : State} {addr : Word} {kind : AccessKind} {fault : Fault} :
    memRead s addr kind = .error fault ↔ ¬ s.inMemory addr ∧ fault = .memFault addr kind := by
  unfold memRead raise
  split <;> simp_all [eq_comm]

/-- A memory write stores the byte exactly inside memory (R53). -/
theorem memWrite_eq_ok {s t : State} {addr : Word} {v : Byte} :
    memWrite s addr v = .ok t ↔ s.inMemory addr ∧ t = s.storeByte addr v := by
  unfold memWrite raise
  split <;> simp_all [eq_comm]

/-- A memory write faults exactly outside memory (R53, R222). -/
theorem memWrite_eq_error {s : State} {addr : Word} {v : Byte} {fault : Fault} :
    memWrite s addr v = .error fault ↔ ¬ s.inMemory addr ∧ fault = .memFault addr .write := by
  unfold memWrite raise
  split <;> simp_all [eq_comm]

/-- An operand read answers the operand's value exactly where it is readable (R128, R129). -/
theorem ByteSource.get_eq_ok {src : ByteSource} {s : State} {v : Byte} :
    src.get s = .ok v ↔ Readable s src ∧ v = operandValue s src := by
  cases src with
  | reg r => simp [ByteSource.get, Readable, operandValue, eq_comm]
  | ind p post => simp [ByteSource.get, Readable, operandValue, memRead_eq_ok]

/-- A read of a register operand never faults; of a memory operand, exactly outside memory. -/
theorem ByteSource.get_eq_error {src : ByteSource} {s : State} {fault : Fault} :
    src.get s = .error fault ↔ ¬ Readable s src ∧ ∃ p post, src = .ind p post ∧ fault = .memFault (s.getPair p) .read := by
  cases src with
  | reg r => simp [ByteSource.get, Readable]
  | ind p post =>
    simp only [ByteSource.get, Readable, memRead_eq_error]
    constructor
    · rintro ⟨h, rfl⟩; exact ⟨h, p, post, rfl, rfl⟩
    · rintro ⟨h, p', post', heq, rfl⟩; cases heq; exact ⟨h, rfl⟩

/-- An operand write changes the register, or stores the byte where the operand is inside memory (R128, R129). -/
theorem ByteSource.set_eq_ok {dst : ByteSource} {v : Byte} {s t : State} :
    dst.set v s = .ok t ↔
      (∃ r, dst = .reg r ∧ t = s.setR8 r v) ∨
      (∃ p post, dst = .ind p post ∧ s.inMemory (s.getPair p) ∧ t = s.storeByte (s.getPair p) v) := by
  cases dst with
  | reg r => simp [ByteSource.set, eq_comm]
  | ind p post =>
    simp only [ByteSource.set, memWrite_eq_ok]
    constructor
    · rintro ⟨h, rfl⟩; exact .inr ⟨p, post, rfl, h, rfl⟩
    · rintro (⟨r, h, _⟩ | ⟨p', post', heq, h, rfl⟩)
      · cases h
      · cases heq; exact ⟨h, rfl⟩

@[simp] theorem afterAccess_cfg (src : ByteSource) (s : State) : (src.afterAccess s).cfg = s.cfg := by
  rcases src with r | ⟨p, _ | _ | _⟩ <;> simp [ByteSource.afterAccess]

@[simp] theorem afterAccess_pc (src : ByteSource) (s : State) : (src.afterAccess s).pc = s.pc := by
  rcases src with r | ⟨p, _ | _ | _⟩ <;> simp [ByteSource.afterAccess]

@[simp] theorem afterAccess_sp (src : ByteSource) (s : State) : (src.afterAccess s).sp = s.sp := by
  rcases src with r | ⟨p, _ | _ | _⟩ <;> simp [ByteSource.afterAccess]

@[simp] theorem afterAccess_mem (src : ByteSource) (s : State) : (src.afterAccess s).mem = s.mem := by
  rcases src with r | ⟨p, _ | _ | _⟩ <;> simp [ByteSource.afterAccess]

/-- The commit of a computation answers a next state exactly when the computation reached one. -/
theorem commit_eq_next {r : Except Fault State} {t : State} : commit r = .next t ↔ r = .ok t := by
  cases r <;> simp [commit]

theorem commit_eq_fault {r : Except Fault State} {fault : Fault} : commit r = .fault fault ↔ r = .error fault := by
  cases r <;> simp [commit]

theorem commit_ne_refused (r : Except Fault State) (why : Refusal) : commit r ≠ .refused why := by
  cases r <;> simp [commit]

/-- A sequence of two steps answers a value exactly when both do. -/
theorem bind_eq_ok {α β : Type} {x : Except Fault α} {f : α → Except Fault β} {b : β} :
    (x >>= f) = .ok b ↔ ∃ v, x = .ok v ∧ f v = .ok b := by
  cases x <;> simp [bind, Except.bind]

theorem bind_eq_error {α β : Type} {x : Except Fault α} {f : α → Except Fault β} {fault : Fault} :
    (x >>= f) = .error fault ↔ x = .error fault ∨ ∃ v, x = .ok v ∧ f v = .error fault := by
  cases x <;> simp [bind, Except.bind]

/-- The bits of F as the register file's bit operations read them (R25, R133). -/
theorem bitGet_toByte (f : Flags) : bitGet f.toByte 7 = .ok f.z ∧ bitGet f.toByte 6 = .ok f.n ∧
    bitGet f.toByte 5 = .ok f.hf ∧ bitGet f.toByte 4 = .ok f.cy := by
  obtain ⟨z, n, hf, cy⟩ := f
  cases z <;> cases n <;> cases hf <;> cases cy <;> decide

/-- The bit operations of the register file read a flag where R25 puts it. -/
theorem bitGet_flag (s : State) (name : FlagName) : bitGet (s.getR8 .f) name.index = .ok (s.flag name) := by
  obtain ⟨h1, h2, h3, h4⟩ := bitGet_toByte s.f
  cases name
  exacts [h1, h2, h3, h4]

end Sys2Proof.Machine
end

