-- ==== Sys2Proof/Laws/Driver.lean ====
section
/-! SUPPORT. What the driver's writes, placing a program and construction can do: one lemma per shared operation, cited in place of it. -/

namespace Sys2Proof.Machine

/-! ### One bit of a cell -/

/-- Setting a bit inside the byte sets that bit and no other (R133). -/
theorem bitSet_of_lt (v : Byte) {index : Nat} (h : index < 8) (bit : Bool) :
    ∃ w, bitSet v index bit = .ok w ∧ ∀ k, k < 8 → w.getLsbD k = if k = index then bit else v.getLsbD k := by
  refine ⟨_, if_pos h, fun k hk => ?_⟩
  by_cases hki : k = index
  · subst hki; cases bit <;> simp [hk]
  · cases bit <;> simp [hk, hki]

/-- A bit index outside the byte breaks the contract, whatever the byte (R133, R223). -/
theorem bitSet_of_ge (v : Byte) {index : Nat} (h : 8 ≤ index) (bit : Bool) :
    bitSet v index bit = .error (.invariantViolation .bitIndex) := if_neg (Nat.not_lt.mpr h)

/-- F keeps the high four bits of a byte written to it (R25). -/
theorem getLsbD_setR8_f (s : State) (v : Byte) {k : Nat} (hk : k < 8) :
    ((s.setR8 .f v).getR8 .f).getLsbD k = (v.getLsbD k && decide (4 ≤ k)) := by
  rw [getR8_setR8_f, BitVec.getLsbD_and]
  congr 1
  revert k; decide

/-! ### A load of bytes -/

/-- A load goes on exactly where its first byte is inside memory. -/
theorem loadBytes_cons_eq_ok {s t : State} {addr : Word} {v : Byte} {rest : List Byte} :
    loadBytes s addr (v :: rest) = .ok t ↔
      s.inMemory addr ∧ loadBytes (s.storeByte addr v) (addr + 1#16) rest = .ok t := by
  simp only [loadBytes, bind_eq_ok, memWrite_eq_ok]
  constructor
  · rintro ⟨u, ⟨h, rfl⟩, hu⟩; exact ⟨h, hu⟩
  · rintro ⟨h, hu⟩; exact ⟨_, ⟨h, rfl⟩, hu⟩

/-- A load faults at its first byte outside memory, or in the bytes after it. -/
theorem loadBytes_cons_eq_error {s : State} {addr : Word} {v : Byte} {rest : List Byte} {fault : Fault} :
    loadBytes s addr (v :: rest) = .error fault ↔
      (¬ s.inMemory addr ∧ fault = .memFault addr .write) ∨
      (s.inMemory addr ∧ loadBytes (s.storeByte addr v) (addr + 1#16) rest = .error fault) := by
  simp only [loadBytes, bind_eq_error, memWrite_eq_error, memWrite_eq_ok]
  constructor
  · rintro (h | ⟨u, ⟨h, rfl⟩, hu⟩)
    · exact .inl h
    · exact .inr ⟨h, hu⟩
  · rintro (h | ⟨h, hu⟩)
    · exact .inl h
    · exact .inr ⟨_, ⟨h, rfl⟩, hu⟩

/-- A load changes memory alone. -/
theorem loadBytes_frame {bytes : List Byte} {s t : State} {addr : Word} (h : loadBytes s addr bytes = .ok t) :
    t.cfg = s.cfg ∧ t.sp = s.sp ∧ t.pc = s.pc ∧ ∀ r : Reg8, t.getR8 r = s.getR8 r := by
  induction bytes generalizing s addr with
  | nil => cases h; exact ⟨rfl, rfl, rfl, fun _ => rfl⟩
  | cons v rest ih =>
    obtain ⟨h1, h2, h3, h4⟩ := ih (loadBytes_cons_eq_ok.mp h).2
    exact ⟨h1, h2, h3, fun r => (h4 r).trans (storeByte_getR8 ..)⟩

/-! ### Placing a program -/

section
variable (s : State) (addr : Word) (v : Byte)

@[simp] theorem placeByte_sp : (s.placeByte addr v).sp = s.sp := rfl
@[simp] theorem placeByte_pc : (s.placeByte addr v).pc = s.pc := rfl
@[simp] theorem placeByte_f : (s.placeByte addr v).f = s.f := rfl
@[simp] theorem placeByte_getR8 (r : Reg8) : (s.placeByte addr v).getR8 r = s.getR8 r := by cases r <;> rfl

/-- A placed byte is the one at its address, and every other byte is as before. -/
theorem byteAt_placeByte (other : Word) :
    (s.placeByte addr v).byteAt other = if other = addr then v else s.byteAt other := byteAt_storeByte s addr other v

/-- Placing a byte makes its address one of memory's and takes none away (notes/assumptions/5.md). -/
theorem inMemory_placeByte (other : Word) :
    (s.placeByte addr v).inMemory other ↔ s.inMemory other ∨ other.toNat ≤ addr.toNat := by
  show other.toNat < max s.cfg.memSize (addr.toNat + 1) ↔ other.toNat < s.cfg.memSize ∨ _
  omega

end

/-- Placing bytes changes no register. -/
theorem placeBytes_frame (bytes : List Byte) (s : State) (addr : Word) :
    (s.placeBytes addr bytes).sp = s.sp ∧ (s.placeBytes addr bytes).pc = s.pc ∧
      ∀ r : Reg8, (s.placeBytes addr bytes).getR8 r = s.getR8 r := by
  induction bytes generalizing s addr with
  | nil => exact ⟨rfl, rfl, fun _ => rfl⟩
  | cons v rest ih =>
    obtain ⟨h1, h2, h3⟩ := ih (s.placeByte addr v) (addr + 1#16)
    exact ⟨h1, h2, fun r => (h3 r).trans (placeByte_getR8 ..)⟩

/-! ### Construction -/

/-- One more byte given to construction is stored if its address exists, and is nothing if not. -/
theorem Memory.ofCells_concat (memSize : Nat) (bytes : List Host.Cell) (cell : Host.Cell) :
    Memory.ofCells memSize (bytes ++ [cell]) =
      if cell.1 < memSize then (Memory.ofCells memSize bytes).write cell.1 cell.2 else Memory.ofCells memSize bytes := by
  simp [Memory.ofCells]

/-- Construction gives a memory in canonical form. -/
theorem Memory.wf_ofCells (memSize : Nat) (bytes : List Host.Cell) : (Memory.ofCells memSize bytes).wf = true := by
  induction bytes using List.reverseRecOn with
  | nil => rfl
  | append_singleton bytes cell ih =>
    rw [Memory.ofCells_concat]
    split
    · exact Memory.wf_write ih _ _
    · exact ih

/-- Construction lists no address outside memory (R51). -/
theorem Memory.within_ofCells (memSize : Nat) (bytes : List Host.Cell) :
    (Memory.ofCells memSize bytes).within memSize = true := by
  induction bytes using List.reverseRecOn with
  | nil => rfl
  | append_singleton bytes cell ih =>
    rw [Memory.ofCells_concat]
    split
    · next h => exact Memory.within_write ih h _
    · exact ih

end Sys2Proof.Machine
end

