-- ==== Sys2Proof/Laws/Exec.lean ====
section
/-! SUPPORT. What an instruction can do, once for each family: exec by the instruction's form, and an inversion lemma for each
shared operation. A claim about all instructions is a claim about eleven forms. -/

namespace Sys2Proof.Machine

/-- The shared operation of an ALU operation field. -/
def AluOp.run : AluOp → ByteSource → State → Host.Outcome State Fault Refusal
  | .add => aluAdd | .adc => aluAdc | .sub => aluSub | .sbc => aluSbc
  | .and => aluAnd | .xor => aluXor | .or => aluOr | .cp => aluCp

/-- The bit movement of a rotate. -/
def Rotate.move : Rotate → Byte → Bool → Rotated
  | .rlca => rlc | .rla => rl | .rrca => rrc | .rra => rr

/-- The shared operation of a form. -/
def Form.run : Form → State → Host.Outcome State Fault Refusal
  | .nop => .next
  | .rot k => rotateA k.move
  | .ld dst src => load8 dst src
  | .ldImm8 dst n => loadImm8 dst n
  | .ldImm16 dst n => loadImm16 dst n
  | .inc16 r => incReg16 r
  | .dec16 r => decReg16 r
  | .inc8 operand => incOperand operand
  | .dec8 operand => decOperand operand
  | .alu op src => op.run src
  | .addHL r => Sys2Proof.Machine.addHL r

/-- Every instruction runs as its form says. -/
theorem exec_eq_form (i : Instr) (s : State) : exec i s = i.form.run s := by cases i <;> rfl

theorem load8_eq_next {dst src : ByteSource} {s t : State} :
    load8 dst src s = .next t ↔
      Readable s src ∧ ∃ u, dst.set (operandValue s src) s = .ok u ∧ t = dst.afterAccess (src.afterAccess u) := by
  simp only [load8, commit_eq_next, bind_eq_ok, ByteSource.get_eq_ok, Except.ok.injEq]
  constructor
  · rintro ⟨v, ⟨hr, rfl⟩, u, hu, rfl⟩; exact ⟨hr, u, hu, rfl⟩
  · rintro ⟨hr, u, hu, rfl⟩; exact ⟨_, ⟨hr, rfl⟩, u, hu, rfl⟩

theorem loadImm8_eq_next {dst : ByteSource} {n : Byte} {s t : State} :
    loadImm8 dst n s = .next t ↔ dst.set n s = .ok t := by
  simp [loadImm8, commit_eq_next]

theorem incOperand_eq_next {operand : ByteSource} {s t : State} :
    incOperand operand s = .next t ↔
      Readable s operand ∧ ∃ u, operand.set (inc8 (operandValue s operand)).result s = .ok u ∧
        t = (operand.afterAccess u).setIncDecFlags (inc8 (operandValue s operand)) false := by
  simp only [incOperand, commit_eq_next, bind_eq_ok, ByteSource.get_eq_ok, Except.ok.injEq]
  constructor
  · rintro ⟨v, ⟨hr, rfl⟩, u, hu, rfl⟩; exact ⟨hr, u, hu, rfl⟩
  · rintro ⟨hr, u, hu, rfl⟩; exact ⟨_, ⟨hr, rfl⟩, u, hu, rfl⟩

theorem decOperand_eq_next {operand : ByteSource} {s t : State} :
    decOperand operand s = .next t ↔
      Readable s operand ∧ ∃ u, operand.set (dec8 (operandValue s operand)).result s = .ok u ∧
        t = (operand.afterAccess u).setIncDecFlags (dec8 (operandValue s operand)) true := by
  simp only [decOperand, commit_eq_next, bind_eq_ok, ByteSource.get_eq_ok, Except.ok.injEq]
  constructor
  · rintro ⟨v, ⟨hr, rfl⟩, u, hu, rfl⟩; exact ⟨hr, u, hu, rfl⟩
  · rintro ⟨hr, u, hu, rfl⟩; exact ⟨_, ⟨hr, rfl⟩, u, hu, rfl⟩

theorem withOperand_eq_next {src : ByteSource} {s t : State} {f : Byte → State} :
    withOperand src s f = .next t ↔ Readable s src ∧ t = f (operandValue s src) := by
  simp only [withOperand, commit_eq_next, bind_eq_ok, ByteSource.get_eq_ok, Except.ok.injEq]
  constructor
  · rintro ⟨v, ⟨hr, rfl⟩, rfl⟩; exact ⟨hr, rfl⟩
  · rintro ⟨hr, rfl⟩; exact ⟨_, ⟨hr, rfl⟩, rfl⟩

/-- The state an ALU operation reaches from the operand's value. -/
def AluOp.result (op : AluOp) (s : State) (v : Byte) : State :=
  match op with
  | .add => s.setAFlags (add8 s.a v false) false
  | .adc => s.setAFlags (add8 s.a v s.f.cy) false
  | .sub => s.setAFlags (sub8 s.a v false) true
  | .sbc => s.setAFlags (sub8 s.a v s.f.cy) true
  | .and => s.setALogic (s.a &&& v) true
  | .xor => s.setALogic (s.a ^^^ v) false
  | .or => s.setALogic (s.a ||| v) false
  | .cp => s.setFlags (sub8 s.a v false).zero true (sub8 s.a v false).half (sub8 s.a v false).carry

theorem AluOp.run_eq_next {op : AluOp} {src : ByteSource} {s t : State} :
    op.run src s = .next t ↔ Readable s src ∧ t = op.result s (operandValue s src) := by
  cases op <;> exact withOperand_eq_next

end Sys2Proof.Machine
end

