-- ==== Sys2Proof/Laws/PerInstr.lean ====
section
/-! SUPPORT. Facts about every instruction as syntax, one lemma per constructor. -/

/-- An instruction's encoding has exactly `Length()` bytes: the length of the decoder's families (R102) and the bytes of the
encoder (R88) agree. -/
def Sys2Proof.Laws.EncodedLength.Statement (i : Sys2Proof.Instr) : Prop :=
  (Sys2Proof.encode i).length = i.length

namespace Sys2Proof.Laws.EncodedLength

theorem nop : Statement .nop := rfl
theorem ldBC_Imm (n : Word) : Statement (.ldBC_Imm n) := rfl
theorem ldIndBC_A : Statement .ldIndBC_A := rfl
theorem incBC : Statement .incBC := rfl
theorem incB : Statement .incB := rfl
theorem decB : Statement .decB := rfl
theorem ldB_Imm (n : Byte) : Statement (.ldB_Imm n) := rfl
theorem rlca : Statement .rlca := rfl
theorem addHL_BC : Statement .addHL_BC := rfl
theorem ldA_IndBC : Statement .ldA_IndBC := rfl
theorem decBC : Statement .decBC := rfl
theorem incC : Statement .incC := rfl
theorem decC : Statement .decC := rfl
theorem ldC_Imm (n : Byte) : Statement (.ldC_Imm n) := rfl
theorem rrca : Statement .rrca := rfl
theorem ldDE_Imm (n : Word) : Statement (.ldDE_Imm n) := rfl
theorem ldIndDE_A : Statement .ldIndDE_A := rfl
theorem incDE : Statement .incDE := rfl
theorem incD : Statement .incD := rfl
theorem decD : Statement .decD := rfl
theorem ldD_Imm (n : Byte) : Statement (.ldD_Imm n) := rfl
theorem rla : Statement .rla := rfl
theorem addHL_DE : Statement .addHL_DE := rfl
theorem ldA_IndDE : Statement .ldA_IndDE := rfl
theorem decDE : Statement .decDE := rfl
theorem incE : Statement .incE := rfl
theorem decE : Statement .decE := rfl
theorem ldE_Imm (n : Byte) : Statement (.ldE_Imm n) := rfl
theorem rra : Statement .rra := rfl
theorem ldHL_Imm (n : Word) : Statement (.ldHL_Imm n) := rfl
theorem ldIndHLInc_A : Statement .ldIndHLInc_A := rfl
theorem incHL : Statement .incHL := rfl
theorem incH : Statement .incH := rfl
theorem decH : Statement .decH := rfl
theorem ldH_Imm (n : Byte) : Statement (.ldH_Imm n) := rfl
theorem addHL_HL : Statement .addHL_HL := rfl
theorem ldA_IndHLInc : Statement .ldA_IndHLInc := rfl
theorem decHL : Statement .decHL := rfl
theorem incL : Statement .incL := rfl
theorem decL : Statement .decL := rfl
theorem ldL_Imm (n : Byte) : Statement (.ldL_Imm n) := rfl
theorem ldSP_Imm (n : Word) : Statement (.ldSP_Imm n) := rfl
theorem ldIndHLDec_A : Statement .ldIndHLDec_A := rfl
theorem incSP : Statement .incSP := rfl
theorem incIndHL : Statement .incIndHL := rfl
theorem decIndHL : Statement .decIndHL := rfl
theorem ldIndHL_Imm (n : Byte) : Statement (.ldIndHL_Imm n) := rfl
theorem addHL_SP : Statement .addHL_SP := rfl
theorem ldA_IndHLDec : Statement .ldA_IndHLDec := rfl
theorem decSP : Statement .decSP := rfl
theorem incA : Statement .incA := rfl
theorem decA : Statement .decA := rfl
theorem ldA_Imm (n : Byte) : Statement (.ldA_Imm n) := rfl
theorem ldB_B : Statement .ldB_B := rfl
theorem ldB_C : Statement .ldB_C := rfl
theorem ldB_D : Statement .ldB_D := rfl
theorem ldB_E : Statement .ldB_E := rfl
theorem ldB_H : Statement .ldB_H := rfl
theorem ldB_L : Statement .ldB_L := rfl
theorem ldB_IndHL : Statement .ldB_IndHL := rfl
theorem ldB_A : Statement .ldB_A := rfl
theorem ldC_B : Statement .ldC_B := rfl
theorem ldC_C : Statement .ldC_C := rfl
theorem ldC_D : Statement .ldC_D := rfl
theorem ldC_E : Statement .ldC_E := rfl
theorem ldC_H : Statement .ldC_H := rfl
theorem ldC_L : Statement .ldC_L := rfl
theorem ldC_IndHL : Statement .ldC_IndHL := rfl
theorem ldC_A : Statement .ldC_A := rfl
theorem ldD_B : Statement .ldD_B := rfl
theorem ldD_C : Statement .ldD_C := rfl
theorem ldD_D : Statement .ldD_D := rfl
theorem ldD_E : Statement .ldD_E := rfl
theorem ldD_H : Statement .ldD_H := rfl
theorem ldD_L : Statement .ldD_L := rfl
theorem ldD_IndHL : Statement .ldD_IndHL := rfl
theorem ldD_A : Statement .ldD_A := rfl
theorem ldE_B : Statement .ldE_B := rfl
theorem ldE_C : Statement .ldE_C := rfl
theorem ldE_D : Statement .ldE_D := rfl
theorem ldE_E : Statement .ldE_E := rfl
theorem ldE_H : Statement .ldE_H := rfl
theorem ldE_L : Statement .ldE_L := rfl
theorem ldE_IndHL : Statement .ldE_IndHL := rfl
theorem ldE_A : Statement .ldE_A := rfl
theorem ldH_B : Statement .ldH_B := rfl
theorem ldH_C : Statement .ldH_C := rfl
theorem ldH_D : Statement .ldH_D := rfl
theorem ldH_E : Statement .ldH_E := rfl
theorem ldH_H : Statement .ldH_H := rfl
theorem ldH_L : Statement .ldH_L := rfl
theorem ldH_IndHL : Statement .ldH_IndHL := rfl
theorem ldH_A : Statement .ldH_A := rfl
theorem ldL_B : Statement .ldL_B := rfl
theorem ldL_C : Statement .ldL_C := rfl
theorem ldL_D : Statement .ldL_D := rfl
theorem ldL_E : Statement .ldL_E := rfl
theorem ldL_H : Statement .ldL_H := rfl
theorem ldL_L : Statement .ldL_L := rfl
theorem ldL_IndHL : Statement .ldL_IndHL := rfl
theorem ldL_A : Statement .ldL_A := rfl
theorem ldIndHL_B : Statement .ldIndHL_B := rfl
theorem ldIndHL_C : Statement .ldIndHL_C := rfl
theorem ldIndHL_D : Statement .ldIndHL_D := rfl
theorem ldIndHL_E : Statement .ldIndHL_E := rfl
theorem ldIndHL_H : Statement .ldIndHL_H := rfl
theorem ldIndHL_L : Statement .ldIndHL_L := rfl
theorem ldIndHL_A : Statement .ldIndHL_A := rfl
theorem ldA_B : Statement .ldA_B := rfl
theorem ldA_C : Statement .ldA_C := rfl
theorem ldA_D : Statement .ldA_D := rfl
theorem ldA_E : Statement .ldA_E := rfl
theorem ldA_H : Statement .ldA_H := rfl
theorem ldA_L : Statement .ldA_L := rfl
theorem ldA_IndHL : Statement .ldA_IndHL := rfl
theorem ldA_A : Statement .ldA_A := rfl
theorem addA_B : Statement .addA_B := rfl
theorem addA_C : Statement .addA_C := rfl
theorem addA_D : Statement .addA_D := rfl
theorem addA_E : Statement .addA_E := rfl
theorem addA_H : Statement .addA_H := rfl
theorem addA_L : Statement .addA_L := rfl
theorem addA_IndHL : Statement .addA_IndHL := rfl
theorem addA_A : Statement .addA_A := rfl
theorem adcA_B : Statement .adcA_B := rfl
theorem adcA_C : Statement .adcA_C := rfl
theorem adcA_D : Statement .adcA_D := rfl
theorem adcA_E : Statement .adcA_E := rfl
theorem adcA_H : Statement .adcA_H := rfl
theorem adcA_L : Statement .adcA_L := rfl
theorem adcA_IndHL : Statement .adcA_IndHL := rfl
theorem adcA_A : Statement .adcA_A := rfl
theorem subA_B : Statement .subA_B := rfl
theorem subA_C : Statement .subA_C := rfl
theorem subA_D : Statement .subA_D := rfl
theorem subA_E : Statement .subA_E := rfl
theorem subA_H : Statement .subA_H := rfl
theorem subA_L : Statement .subA_L := rfl
theorem subA_IndHL : Statement .subA_IndHL := rfl
theorem subA_A : Statement .subA_A := rfl
theorem sbcA_B : Statement .sbcA_B := rfl
theorem sbcA_C : Statement .sbcA_C := rfl
theorem sbcA_D : Statement .sbcA_D := rfl
theorem sbcA_E : Statement .sbcA_E := rfl
theorem sbcA_H : Statement .sbcA_H := rfl
theorem sbcA_L : Statement .sbcA_L := rfl
theorem sbcA_IndHL : Statement .sbcA_IndHL := rfl
theorem sbcA_A : Statement .sbcA_A := rfl
theorem andB : Statement .andB := rfl
theorem andC : Statement .andC := rfl
theorem andD : Statement .andD := rfl
theorem andE : Statement .andE := rfl
theorem andH : Statement .andH := rfl
theorem andL : Statement .andL := rfl
theorem andIndHL : Statement .andIndHL := rfl
theorem andA : Statement .andA := rfl
theorem xorB : Statement .xorB := rfl
theorem xorC : Statement .xorC := rfl
theorem xorD : Statement .xorD := rfl
theorem xorE : Statement .xorE := rfl
theorem xorH : Statement .xorH := rfl
theorem xorL : Statement .xorL := rfl
theorem xorIndHL : Statement .xorIndHL := rfl
theorem xorA : Statement .xorA := rfl
theorem orB : Statement .orB := rfl
theorem orC : Statement .orC := rfl
theorem orD : Statement .orD := rfl
theorem orE : Statement .orE := rfl
theorem orH : Statement .orH := rfl
theorem orL : Statement .orL := rfl
theorem orIndHL : Statement .orIndHL := rfl
theorem orA : Statement .orA := rfl
theorem cpB : Statement .cpB := rfl
theorem cpC : Statement .cpC := rfl
theorem cpD : Statement .cpD := rfl
theorem cpE : Statement .cpE := rfl
theorem cpH : Statement .cpH := rfl
theorem cpL : Statement .cpL := rfl
theorem cpIndHL : Statement .cpIndHL := rfl
theorem cpA : Statement .cpA := rfl

end Sys2Proof.Laws.EncodedLength
end

