-- ==== Sys2Proof/Laws/Run.lean ====
section
/-! SUPPORT. What one step can do. -/

namespace Sys2Proof.Machine

theorem dropCycles_eq_next {o : Host.Outcome (State × Nat) Fault Refusal} {t : State} :
    dropCycles o = .next t ↔ ∃ n, o = .next (t, n) := by
  rcases o with ⟨u, n⟩ | fault | why <;> simp [dropCycles]

theorem dropCycles_eq_fault {o : Host.Outcome (State × Nat) Fault Refusal} {fault : Fault} :
    dropCycles o = .fault fault ↔ o = .fault fault := by
  rcases o with ⟨u, n⟩ | fault | why <;> simp [dropCycles]

theorem dropCycles_eq_refused {o : Host.Outcome (State × Nat) Fault Refusal} {why : Refusal} :
    dropCycles o = .refused why ↔ o = .refused why := by
  rcases o with ⟨u, n⟩ | fault | why <;> simp [dropCycles]

theorem advancePc_eq (pc : Word) (i : Instr) (s : State) :
    advancePc pc i s = { s with pc := pc + BitVec.ofNat 16 i.length } := rfl

theorem runFetched_eq_next {i : Instr} {s t : State} {n : Nat} :
    runFetched i s = .next (t, n) ↔ ∃ u, exec i s = .next u ∧ t = advancePc s.pc i u ∧ n = i.cycles := by
  unfold runFetched
  cases exec i s <;> simp [runReport, eq_comm]

/-- A step that reaches a next state fetched an instruction, ran it and advanced PC past it (R140). -/
theorem step_eq_next {s t : State} :
    step s = .next t ↔ ∃ i u, fetch s = .ok i ∧ exec i s = .next u ∧ t = advancePc s.pc i u := by
  unfold step
  rw [dropCycles_eq_next]
  unfold stepWithCycles
  cases hf : fetch s with
  | error fault => simp
  | ok i =>
    simp only [runFetched_eq_next]
    constructor
    · rintro ⟨n, u, hu, rfl, rfl⟩; exact ⟨i, u, rfl, hu, rfl⟩
    · rintro ⟨i', u, hi, hu, rfl⟩; cases hi; exact ⟨_, u, hu, rfl, rfl⟩

/-- A step faults in its fetch or in the instruction it fetched. -/
theorem step_eq_fault {s : State} {fault : Fault} :
    step s = .fault fault ↔ fetch s = .error fault ∨ ∃ i, fetch s = .ok i ∧ exec i s = .fault fault := by
  unfold step
  rw [dropCycles_eq_fault]
  unfold stepWithCycles
  cases hf : fetch s with
  | error f => simp
  | ok i =>
    simp only [runFetched, reduceCtorEq, false_or, Except.ok.injEq, exists_eq_left']
    cases exec i s <;> simp

end Sys2Proof.Machine
end

