-- ==== Sys2Proof/Tests/Slice0.lean ====
section
/-! SUPPORT. Tests, each one step at most. The expected results are the spec's: the map R88, the formats R82, and the rows of
95_test_vectors.md, named in each docstring. Last, for every statement with hypotheses, a witness that meets them. -/

namespace Sys2Proof.Tests

open Machine Claims

/-- The start state of 95_test_vectors.md: every register 0, PC given, code at PC, and bytes elsewhere. -/
def load (pc : Word) (code : List Byte) (data : List (Word × Byte)) : State :=
  data.foldl (fun s cell => s.storeByte cell.1 cell.2) ({ State.reset with pc := pc }.placeBytes pc code)

/-- The step runs, with these cycles, to a state that passes a check. -/
def runsTo (s : State) (cycles : Nat) (check : State → Bool) : Bool :=
  match stepWithCycles s with
  | .next (t, n) => n == cycles && check t
  | _ => false

/-- The step reports this fault. -/
def faultsWith (s : State) (fault : Fault) : Bool :=
  match step s with
  | .fault f => f == fault
  | _ => false

/-! ### Well-formedness -/

/-- R8: a memory of no byte is refused. -/
theorem test_wf_refuses_empty_memory : Config.wf ⟨0, .highFirst⟩ = false := by decide

/-- R8: more bytes than 16-bit addresses is refused. -/
theorem test_wf_refuses_too_much_memory : Config.wf ⟨65537, .lowFirst⟩ = false := by decide

/-- R8: both ends of the range are legal. -/
theorem test_wf_accepts_range : Config.wf ⟨1, .lowFirst⟩ = true ∧ Config.wf ⟨65536, .highFirst⟩ = true := by decide

/-- A memory list out of order, or with a cell equal to what an unlisted address reads as, is not in canonical form. -/
theorem test_memory_wf_refuses : Memory.wf [(2, 1#8), (1, 1#8)] = false ∧ Memory.wf [(1, 0#8)] = false ∧
    Memory.wf [(1, 1#8), (1, 2#8)] = false := by decide

/-! ### Decoding: every code of the map R88 -/

/-- The instructions of sixteen codes; immediates are zero. -/
def rowOf (first : Nat) : List (Option Instr) := (List.range 16).map (fun k => decodeTableWord 8 (first + k))

/-- Row 0x of the map R88. -/
theorem test_decode_row_0x : rowOf 0x00 =
    [some .nop, some (.ldBC_Imm 0#16), some .ldIndBC_A, some .incBC,
     some .incB, some .decB, some (.ldB_Imm 0#8), some .rlca,
     none, some .addHL_BC, some .ldA_IndBC, some .decBC,
     some .incC, some .decC, some (.ldC_Imm 0#8), some .rrca] := by decide

/-- Row 1x of the map R88. -/
theorem test_decode_row_1x : rowOf 0x10 =
    [none, some (.ldDE_Imm 0#16), some .ldIndDE_A, some .incDE,
     some .incD, some .decD, some (.ldD_Imm 0#8), some .rla,
     none, some .addHL_DE, some .ldA_IndDE, some .decDE,
     some .incE, some .decE, some (.ldE_Imm 0#8), some .rra] := by decide

/-- Row 2x of the map R88. -/
theorem test_decode_row_2x : rowOf 0x20 =
    [none, some (.ldHL_Imm 0#16), some .ldIndHLInc_A, some .incHL,
     some .incH, some .decH, some (.ldH_Imm 0#8), none,
     none, some .addHL_HL, some .ldA_IndHLInc, some .decHL,
     some .incL, some .decL, some (.ldL_Imm 0#8), none] := by decide

/-- Row 3x of the map R88. -/
theorem test_decode_row_3x : rowOf 0x30 =
    [none, some (.ldSP_Imm 0#16), some .ldIndHLDec_A, some .incSP,
     some .incIndHL, some .decIndHL, some (.ldIndHL_Imm 0#8), none,
     none, some .addHL_SP, some .ldA_IndHLDec, some .decSP,
     some .incA, some .decA, some (.ldA_Imm 0#8), none] := by decide

/-- Row 4x of the map R88. -/
theorem test_decode_row_4x : rowOf 0x40 =
    [some .ldB_B, some .ldB_C, some .ldB_D, some .ldB_E,
     some .ldB_H, some .ldB_L, some .ldB_IndHL, some .ldB_A,
     some .ldC_B, some .ldC_C, some .ldC_D, some .ldC_E,
     some .ldC_H, some .ldC_L, some .ldC_IndHL, some .ldC_A] := by decide

/-- Row 5x of the map R88. -/
theorem test_decode_row_5x : rowOf 0x50 =
    [some .ldD_B, some .ldD_C, some .ldD_D, some .ldD_E,
     some .ldD_H, some .ldD_L, some .ldD_IndHL, some .ldD_A,
     some .ldE_B, some .ldE_C, some .ldE_D, some .ldE_E,
     some .ldE_H, some .ldE_L, some .ldE_IndHL, some .ldE_A] := by decide

/-- Row 6x of the map R88. -/
theorem test_decode_row_6x : rowOf 0x60 =
    [some .ldH_B, some .ldH_C, some .ldH_D, some .ldH_E,
     some .ldH_H, some .ldH_L, some .ldH_IndHL, some .ldH_A,
     some .ldL_B, some .ldL_C, some .ldL_D, some .ldL_E,
     some .ldL_H, some .ldL_L, some .ldL_IndHL, some .ldL_A] := by decide

/-- Row 7x of the map R88. -/
theorem test_decode_row_7x : rowOf 0x70 =
    [some .ldIndHL_B, some .ldIndHL_C, some .ldIndHL_D, some .ldIndHL_E,
     some .ldIndHL_H, some .ldIndHL_L, none, some .ldIndHL_A,
     some .ldA_B, some .ldA_C, some .ldA_D, some .ldA_E,
     some .ldA_H, some .ldA_L, some .ldA_IndHL, some .ldA_A] := by decide

/-- Row 8x of the map R88. -/
theorem test_decode_row_8x : rowOf 0x80 =
    [some .addA_B, some .addA_C, some .addA_D, some .addA_E,
     some .addA_H, some .addA_L, some .addA_IndHL, some .addA_A,
     some .adcA_B, some .adcA_C, some .adcA_D, some .adcA_E,
     some .adcA_H, some .adcA_L, some .adcA_IndHL, some .adcA_A] := by decide

/-- Row 9x of the map R88. -/
theorem test_decode_row_9x : rowOf 0x90 =
    [some .subA_B, some .subA_C, some .subA_D, some .subA_E,
     some .subA_H, some .subA_L, some .subA_IndHL, some .subA_A,
     some .sbcA_B, some .sbcA_C, some .sbcA_D, some .sbcA_E,
     some .sbcA_H, some .sbcA_L, some .sbcA_IndHL, some .sbcA_A] := by decide

/-- Row Ax of the map R88. -/
theorem test_decode_row_Ax : rowOf 0xA0 =
    [some .andB, some .andC, some .andD, some .andE,
     some .andH, some .andL, some .andIndHL, some .andA,
     some .xorB, some .xorC, some .xorD, some .xorE,
     some .xorH, some .xorL, some .xorIndHL, some .xorA] := by decide

/-- Row Bx of the map R88. -/
theorem test_decode_row_Bx : rowOf 0xB0 =
    [some .orB, some .orC, some .orD, some .orE,
     some .orH, some .orL, some .orIndHL, some .orA,
     some .cpB, some .cpC, some .cpD, some .cpE,
     some .cpH, some .cpL, some .cpIndHL, some .cpA] := by decide

/-- Rows Cx to Fx of the map R88: no instruction. -/
theorem test_decode_rows_CxFx : rowOf 0xC0 = List.replicate 16 none ∧ rowOf 0xD0 = List.replicate 16 none ∧
    rowOf 0xE0 = List.replicate 16 none ∧ rowOf 0xF0 = List.replicate 16 none := by decide

/-- One word of every format of R82, written bit by bit, with its fields by R28 and R29. -/
theorem test_decode_formats :
    decodeTableWord 8 0b00011111 = some .rra ∧
    decodeTableWord 8 0b01011110 = some .ldE_IndHL ∧
    decodeTableWord 16 0b1010010100110110 = some (.ldIndHL_Imm 0xA5#8) ∧
    decodeTableWord 8 0b00111101 = some .decA ∧
    decodeTableWord 8 0b10010101 = some .subA_L ∧
    decodeTableWord 24 0b000100100011010000110001 = some (.ldSP_Imm 0x1234#16) ∧
    decodeTableWord 8 0b00001011 = some .decBC ∧
    decodeTableWord 8 0b00011001 = some .addHL_DE ∧
    decodeTableWord 8 0b00111010 = some .ldA_IndHLDec := by decide

/-- An immediate that is not all there does not decode. -/
theorem test_decode_truncated : decode [0x21#8, 0x34#8] = .error (.truncated 0x21#8) ∧ decode [] = .error .noBytes :=
  ⟨rfl, rfl⟩

/-! ### The rows of 95_test_vectors.md -/

/-- V-LD1 (R160): LD A,B. -/
theorem test_V_LD1 : runsTo { load 0x0100#16 [0x78#8] [] with b := 0x12#8 } 4
    (fun t => t.a == 0x12#8 && t.pc == 0x0101#16 && t.f == ⟨false, false, false, false⟩) = true := by decide

/-- V-LD2 (R160): LD B,B. -/
theorem test_V_LD2 : runsTo { load 0x0100#16 [0x40#8] [] with b := 0x5A#8, f := ⟨true, false, false, true⟩ } 4
    (fun t => t.pc == 0x0101#16 && t.f == ⟨true, false, false, true⟩) = true := by decide

/-- V-LD6 (R161): LD L,(HL). -/
theorem test_V_LD6 : runsTo { load 0x0100#16 [0x6E#8] [(0xC012#16, 0x77#8)] with h := 0xC0#8, l := 0x12#8 } 8
    (fun t => t.l == 0x77#8 && t.pc == 0x0101#16 && t.f == ⟨false, false, false, false⟩) = true := by decide

/-- V-LD8 (R162): LD (HL),H. -/
theorem test_V_LD8 : runsTo { load 0x0100#16 [0x74#8] [] with h := 0xC0#8, l := 0x12#8 } 8
    (fun t => t.byteAt 0xC012#16 == 0xC0#8 && t.pc == 0x0101#16 && t.f == ⟨false, false, false, false⟩) = true := by decide

/-- V-LD11 (R161): LD A,(HL). -/
theorem test_V_LD11 : faultsWith { load 0x0100#16 [0x7E#8] [] with h := 0x90#8, cfg := ⟨0x8000, .highFirst⟩ } (.memFault 0x9000#16 .read) = true := by decide

/-- V-LD12 (R162): LD (HL),B. -/
theorem test_V_LD12 : faultsWith { load 0x0100#16 [0x70#8] [] with h := 0x90#8, b := 0x01#8, cfg := ⟨0x8000, .highFirst⟩ } (.memFault 0x9000#16 .write) = true := by decide

/-- V-LDI1 (R163): LD B,d8. -/
theorem test_V_LDI1 : runsTo (load 0x0100#16 [0x06#8, 0x42#8] []) 8
    (fun t => t.b == 0x42#8 && t.pc == 0x0102#16 && t.f == ⟨false, false, false, false⟩) = true := by decide

/-- V-LDI3 (R163): LD L,d8. -/
theorem test_V_LDI3 : runsTo (load 0xFFFF#16 [0x2E#8] [(0x0000#16, 0x5C#8)]) 8
    (fun t => t.l == 0x5C#8 && t.pc == 0x0001#16 && t.f == ⟨false, false, false, false⟩) = true := by decide

/-- V-LDI4 (R164): LD (HL),d8. -/
theorem test_V_LDI4 : runsTo { load 0x0100#16 [0x36#8, 0xA5#8] [] with h := 0xC1#8 } 12
    (fun t => t.byteAt 0xC100#16 == 0xA5#8 && t.pc == 0x0102#16 && t.f == ⟨false, false, false, false⟩) = true := by decide

/-- V-LDI6 (R164): LD (HL),d8. -/
theorem test_V_LDI6 : faultsWith { load 0x7FFF#16 [0x36#8] [] with h := 0x90#8, cfg := ⟨0x8000, .highFirst⟩ } (.memFault 0x8000#16 .imm) = true := by decide

/-- V-LDI7 (R164): LD (HL),d8. -/
theorem test_V_LDI7 : faultsWith { load 0x0100#16 [0x36#8, 0x01#8] [] with h := 0x90#8, cfg := ⟨0x8000, .highFirst⟩ } (.memFault 0x9000#16 .write) = true := by decide

/-- V-IND1 (R165): LD (BC),A. -/
theorem test_V_IND1 : runsTo { load 0x0100#16 [0x02#8] [] with b := 0xC0#8, a := 0x11#8 } 8
    (fun t => t.byteAt 0xC000#16 == 0x11#8 && t.pc == 0x0101#16 && t.f == ⟨false, false, false, false⟩) = true := by decide

/-- V-IND2 (R166): LD (DE),A. -/
theorem test_V_IND2 : runsTo { load 0x0100#16 [0x12#8] [] with e := 0x18#8, a := 0x45#8 } 8
    (fun t => t.byteAt 0x0018#16 == 0x45#8 && t.pc == 0x0101#16 && t.f == ⟨false, false, false, false⟩) = true := by decide

/-- V-IND3 (R167): LD A,(BC). -/
theorem test_V_IND3 : runsTo { load 0x0100#16 [0x0A#8] [(0x0033#16, 0x12#8)] with c := 0x33#8 } 8
    (fun t => t.a == 0x12#8 && t.pc == 0x0101#16 && t.f == ⟨false, false, false, false⟩) = true := by decide

/-- V-IND4 (R168): LD A,(DE). -/
theorem test_V_IND4 : runsTo { load 0x0100#16 [0x1A#8] [(0xC001#16, 0x9C#8)] with d := 0xC0#8, e := 0x01#8 } 8
    (fun t => t.a == 0x9C#8 && t.pc == 0x0101#16 && t.f == ⟨false, false, false, false⟩) = true := by decide

/-- V-IND6 (R169): LD (HL+),A. -/
theorem test_V_IND6 : runsTo { load 0x0100#16 [0x22#8] [] with h := 0xFF#8, l := 0xFF#8, a := 0x01#8 } 8
    (fun t => t.h == 0x00#8 && t.l == 0x00#8 && t.byteAt 0xFFFF#16 == 0x01#8 && t.pc == 0x0101#16 && t.f == ⟨false, false, false, false⟩) = true := by decide

/-- V-IND7 (R170): LD (HL-),A. -/
theorem test_V_IND7 : runsTo { load 0x0200#16 [0x32#8] [] with a := 0x02#8, f := ⟨false, false, false, true⟩ } 8
    (fun t => t.h == 0xFF#8 && t.l == 0xFF#8 && t.byteAt 0x0000#16 == 0x02#8 && t.pc == 0x0201#16 && t.f == ⟨false, false, false, true⟩) = true := by decide

/-- V-IND8 (R171): LD A,(HL+). -/
theorem test_V_IND8 : runsTo { load 0x0100#16 [0x2A#8] [(0xC0FF#16, 0x44#8)] with h := 0xC0#8, l := 0xFF#8 } 8
    (fun t => t.a == 0x44#8 && t.h == 0xC1#8 && t.l == 0x00#8 && t.pc == 0x0101#16 && t.f == ⟨false, false, false, false⟩) = true := by decide

/-- V-IND9 (R172): LD A,(HL-). -/
theorem test_V_IND9 : runsTo { load 0x0100#16 [0x3A#8] [(0xC100#16, 0x55#8)] with h := 0xC1#8 } 8
    (fun t => t.a == 0x55#8 && t.h == 0xC0#8 && t.l == 0xFF#8 && t.pc == 0x0101#16 && t.f == ⟨false, false, false, false⟩) = true := by decide

/-- V-IND11 (R169): LD (HL+),A. -/
theorem test_V_IND11 : faultsWith { load 0x0100#16 [0x22#8] [] with h := 0x80#8, a := 0x01#8, cfg := ⟨0x8000, .highFirst⟩ } (.memFault 0x8000#16 .write) = true := by decide

/-- V-IND12 (R172): LD A,(HL-). -/
theorem test_V_IND12 : faultsWith { load 0x0100#16 [0x3A#8] [] with h := 0x80#8, cfg := ⟨0x8000, .highFirst⟩ } (.memFault 0x8000#16 .read) = true := by decide

/-- V-LD16-1 (R173): LD BC,d16. -/
theorem test_V_LD16_1 : runsTo (load 0x0100#16 [0x01#8, 0x34#8, 0x12#8] []) 12
    (fun t => t.b == 0x12#8 && t.c == 0x34#8 && t.pc == 0x0103#16 && t.f == ⟨false, false, false, false⟩) = true := by decide

/-- V-LD16-2 (R173): LD BC,d16. -/
theorem test_V_LD16_2 : runsTo { load 0x0100#16 [0x01#8, 0x34#8, 0x12#8] [] with cfg := ⟨0x10000, .lowFirst⟩ } 12
    (fun t => t.b == 0x34#8 && t.c == 0x12#8 && t.pc == 0x0103#16 && t.f == ⟨false, false, false, false⟩) = true := by decide

/-- V-LD16-5 (R173): LD SP,d16. -/
theorem test_V_LD16_5 : runsTo { load 0x0100#16 [0x31#8, 0xFE#8, 0xFF#8] [] with f := ⟨true, false, false, true⟩ } 12
    (fun t => t.sp == 0xFFFE#16 && t.pc == 0x0103#16 && t.f == ⟨true, false, false, true⟩) = true := by decide

/-- V-LD16-6 (R173): LD HL,d16. -/
theorem test_V_LD16_6 : runsTo (load 0xFFFE#16 [0x21#8] [(0xFFFF#16, 0xCD#8), (0x0000#16, 0xAB#8)]) 12
    (fun t => t.h == 0xAB#8 && t.l == 0xCD#8 && t.pc == 0x0001#16 && t.f == ⟨false, false, false, false⟩) = true := by decide

/-- V-LD16-7 (R173): LD BC,d16. -/
theorem test_V_LD16_7 : faultsWith { load 0x7FFE#16 [0x01#8, 0x00#8] [] with cfg := ⟨0x8000, .highFirst⟩ } (.memFault 0x8000#16 .imm) = true := by decide

/-- V-ID16-1 (R180): INC BC. -/
theorem test_V_ID16_1 : runsTo { load 0x0100#16 [0x03#8] [] with c := 0xFF#8 } 8
    (fun t => t.b == 0x01#8 && t.c == 0x00#8 && t.pc == 0x0101#16 && t.f == ⟨false, false, false, false⟩) = true := by decide

/-- V-ID16-2 (R180): INC HL. -/
theorem test_V_ID16_2 : runsTo { load 0x0100#16 [0x23#8] [] with h := 0xFF#8, l := 0xFF#8, f := ⟨false, true, false, false⟩ } 8
    (fun t => t.h == 0x00#8 && t.l == 0x00#8 && t.pc == 0x0101#16 && t.f == ⟨false, true, false, false⟩) = true := by decide

/-- V-ID16-3 (R180): INC SP. -/
theorem test_V_ID16_3 : runsTo { load 0x0100#16 [0x33#8] [] with sp := 0xFFFF#16 } 8
    (fun t => t.sp == 0x0000#16 && t.pc == 0x0101#16 && t.f == ⟨false, false, false, false⟩) = true := by decide

/-- V-ID16-4 (R181): DEC DE. -/
theorem test_V_ID16_4 : runsTo { load 0x0100#16 [0x1B#8] [] with d := 0x01#8 } 8
    (fun t => t.d == 0x00#8 && t.e == 0xFF#8 && t.pc == 0x0101#16 && t.f == ⟨false, false, false, false⟩) = true := by decide

/-- V-ID16-5 (R181): DEC SP. -/
theorem test_V_ID16_5 : runsTo { load 0x0100#16 [0x3B#8] [] with f := ⟨true, false, false, false⟩ } 8
    (fun t => t.sp == 0xFFFF#16 && t.pc == 0x0101#16 && t.f == ⟨true, false, false, false⟩) = true := by decide

/-- V-ID8-1 (R182): INC B. -/
theorem test_V_ID8_1 : runsTo { load 0x0100#16 [0x04#8] [] with b := 0xFF#8 } 4
    (fun t => t.b == 0x00#8 && t.pc == 0x0101#16 && t.f == ⟨true, false, true, false⟩) = true := by decide

/-- V-ID8-2 (R182): INC C. -/
theorem test_V_ID8_2 : runsTo { load 0x0100#16 [0x0C#8] [] with c := 0x0F#8, f := ⟨false, false, false, true⟩ } 4
    (fun t => t.c == 0x10#8 && t.pc == 0x0101#16 && t.f == ⟨false, false, true, true⟩) = true := by decide

/-- V-ID8-6 (R184): DEC D. -/
theorem test_V_ID8_6 : runsTo { load 0x0100#16 [0x15#8] [] with f := ⟨false, false, false, true⟩ } 4
    (fun t => t.d == 0xFF#8 && t.pc == 0x0101#16 && t.f == ⟨false, true, true, true⟩) = true := by decide

/-- V-ID8-8 (R184): DEC H. -/
theorem test_V_ID8_8 : runsTo { load 0x0100#16 [0x25#8] [] with h := 0x10#8 } 4
    (fun t => t.h == 0x0F#8 && t.pc == 0x0101#16 && t.f == ⟨false, true, true, false⟩) = true := by decide

/-- V-ID8-10 (R183): INC (HL). -/
theorem test_V_ID8_10 : runsTo { load 0x0100#16 [0x34#8] [(0xC000#16, 0xFF#8)] with h := 0xC0#8, f := ⟨false, false, false, true⟩ } 12
    (fun t => t.byteAt 0xC000#16 == 0x00#8 && t.pc == 0x0101#16 && t.f == ⟨true, false, true, true⟩) = true := by decide

/-- V-ID8-12 (R185): DEC (HL). -/
theorem test_V_ID8_12 : runsTo { load 0x0100#16 [0x35#8] [(0xC000#16, 0x00#8)] with h := 0xC0#8 } 12
    (fun t => t.byteAt 0xC000#16 == 0xFF#8 && t.pc == 0x0101#16 && t.f == ⟨false, true, true, false⟩) = true := by decide

/-- V-ID8-13 (R183): INC (HL). -/
theorem test_V_ID8_13 : faultsWith { load 0x0100#16 [0x34#8] [] with h := 0x80#8, cfg := ⟨0x8000, .highFirst⟩ } (.memFault 0x8000#16 .read) = true := by decide

/-- V-ADD1 (R190): ADD A,H. -/
theorem test_V_ADD1 : runsTo { load 0x0100#16 [0x84#8] [] with a := 0xFF#8, h := 0xFF#8 } 4
    (fun t => t.a == 0xFE#8 && t.pc == 0x0101#16 && t.f == ⟨false, false, true, true⟩) = true := by decide

/-- V-ADD2 (R190): ADD A,A. -/
theorem test_V_ADD2 : runsTo { load 0x0100#16 [0x87#8] [] with a := 0x80#8 } 4
    (fun t => t.a == 0x00#8 && t.pc == 0x0101#16 && t.f == ⟨true, false, false, true⟩) = true := by decide

/-- V-ADD5 (R190): ADD A,(HL). -/
theorem test_V_ADD5 : runsTo { load 0x0100#16 [0x86#8] [(0xC000#16, 0x34#8)] with a := 0x12#8, h := 0xC0#8 } 8
    (fun t => t.a == 0x46#8 && t.pc == 0x0101#16 && t.f == ⟨false, false, false, false⟩) = true := by decide

/-- V-ADD7 (R191): ADC A,B. -/
theorem test_V_ADD7 : runsTo { load 0x0100#16 [0x88#8] [] with a := 0xFF#8, f := ⟨false, false, false, true⟩ } 4
    (fun t => t.a == 0x00#8 && t.pc == 0x0101#16 && t.f == ⟨true, false, true, true⟩) = true := by decide

/-- V-ADD8 (R191): ADC A,B. -/
theorem test_V_ADD8 : runsTo { load 0x0100#16 [0x88#8] [] with a := 0x0E#8, b := 0x01#8, f := ⟨false, false, false, true⟩ } 4
    (fun t => t.a == 0x10#8 && t.pc == 0x0101#16 && t.f == ⟨false, false, true, false⟩) = true := by decide

/-- V-ADD11 (R191): ADC A,(HL). -/
theorem test_V_ADD11 : runsTo { load 0x0100#16 [0x8E#8] [(0xC000#16, 0xFE#8)] with a := 0x01#8, h := 0xC0#8, f := ⟨false, false, false, true⟩ } 8
    (fun t => t.a == 0x00#8 && t.pc == 0x0101#16 && t.f == ⟨true, false, true, true⟩) = true := by decide

/-- V-SUB1 (R192): SUB A,E. -/
theorem test_V_SUB1 : runsTo { load 0x0100#16 [0x93#8] [] with a := 0x3E#8, e := 0x3E#8 } 4
    (fun t => t.a == 0x00#8 && t.pc == 0x0101#16 && t.f == ⟨true, true, false, false⟩) = true := by decide

/-- V-SUB5 (R192): SUB A,(HL). -/
theorem test_V_SUB5 : runsTo { load 0x0100#16 [0x96#8] [(0xC000#16, 0x40#8)] with a := 0x3E#8, h := 0xC0#8 } 8
    (fun t => t.a == 0xFE#8 && t.pc == 0x0101#16 && t.f == ⟨false, true, false, true⟩) = true := by decide

/-- V-SUB7 (R193): SBC A,B. -/
theorem test_V_SUB7 : runsTo { load 0x0100#16 [0x98#8] [] with b := 0x0F#8, f := ⟨false, false, false, true⟩ } 4
    (fun t => t.a == 0xF0#8 && t.pc == 0x0101#16 && t.f == ⟨false, true, true, true⟩) = true := by decide

/-- V-SUB9 (R193): SBC A,A. -/
theorem test_V_SUB9 : runsTo { load 0x0100#16 [0x9F#8] [] with a := 0x5A#8, f := ⟨false, false, false, true⟩ } 4
    (fun t => t.a == 0xFF#8 && t.pc == 0x0101#16 && t.f == ⟨false, true, true, true⟩) = true := by decide

/-- V-SUB11 (R193): SBC A,C. -/
theorem test_V_SUB11 : runsTo { load 0x0100#16 [0x99#8] [] with a := 0x42#8, c := 0xFF#8, f := ⟨false, false, false, true⟩ } 4
    (fun t => t.pc == 0x0101#16 && t.f == ⟨false, true, true, true⟩) = true := by decide

/-- V-LOG1 (R194): AND L. -/
theorem test_V_LOG1 : runsTo { load 0x0100#16 [0xA5#8] [] with a := 0x5A#8, l := 0x3F#8 } 4
    (fun t => t.a == 0x1A#8 && t.pc == 0x0101#16 && t.f == ⟨false, false, true, false⟩) = true := by decide

/-- V-LOG2 (R194): AND B. -/
theorem test_V_LOG2 : runsTo { load 0x0100#16 [0xA0#8] [] with a := 0xF0#8, b := 0x0F#8, f := ⟨false, true, false, true⟩ } 4
    (fun t => t.a == 0x00#8 && t.pc == 0x0101#16 && t.f == ⟨true, false, true, false⟩) = true := by decide

/-- V-LOG6 (R195): XOR (HL). -/
theorem test_V_LOG6 : runsTo { load 0x0100#16 [0xAE#8] [(0xC000#16, 0x55#8)] with a := 0x55#8, h := 0xC0#8 } 8
    (fun t => t.a == 0x00#8 && t.pc == 0x0101#16 && t.f == ⟨true, false, false, false⟩) = true := by decide

/-- V-LOG8 (R196): OR E. -/
theorem test_V_LOG8 : runsTo { load 0x0100#16 [0xB3#8] [] with a := 0x80#8, e := 0x01#8, f := ⟨false, false, true, true⟩ } 4
    (fun t => t.a == 0x81#8 && t.pc == 0x0101#16 && t.f == ⟨false, false, false, false⟩) = true := by decide

/-- V-LOG10 (R197): CP B. -/
theorem test_V_LOG10 : runsTo { load 0x0100#16 [0xB8#8] [] with a := 0x3C#8, b := 0x2F#8 } 4
    (fun t => t.pc == 0x0101#16 && t.f == ⟨false, true, true, false⟩) = true := by decide

/-- V-LOG11 (R197): CP (HL). -/
theorem test_V_LOG11 : runsTo { load 0x0100#16 [0xBE#8] [(0xC000#16, 0x40#8)] with a := 0x3C#8, h := 0xC0#8 } 8
    (fun t => t.pc == 0x0101#16 && t.f == ⟨false, true, false, true⟩) = true := by decide

/-- V-LOG13 (R197): CP C. -/
theorem test_V_LOG13 : runsTo { load 0x0100#16 [0xB9#8] [] with c := 0x0F#8, f := ⟨false, false, false, true⟩ } 4
    (fun t => t.pc == 0x0101#16 && t.f == ⟨false, true, true, true⟩) = true := by decide

/-- V-A16-2 (R200): ADD HL,DE. -/
theorem test_V_A16_2 : runsTo { load 0x0100#16 [0x19#8] [] with h := 0xFF#8, l := 0xFF#8, e := 0x01#8 } 8
    (fun t => t.h == 0x00#8 && t.l == 0x00#8 && t.pc == 0x0101#16 && t.f == ⟨false, false, true, true⟩) = true := by decide

/-- V-A16-3 (R200): ADD HL,BC. -/
theorem test_V_A16_3 : runsTo { load 0x0100#16 [0x09#8] [] with h := 0x0F#8, l := 0xFF#8, c := 0x01#8, f := ⟨true, false, false, false⟩ } 8
    (fun t => t.h == 0x10#8 && t.l == 0x00#8 && t.pc == 0x0101#16 && t.f == ⟨true, false, true, false⟩) = true := by decide

/-- V-A16-4 (R200): ADD HL,HL. -/
theorem test_V_A16_4 : runsTo { load 0x0100#16 [0x29#8] [] with h := 0x80#8 } 8
    (fun t => t.h == 0x00#8 && t.pc == 0x0101#16 && t.f == ⟨false, false, false, true⟩) = true := by decide

/-- V-A16-6 (R200): ADD HL,SP. -/
theorem test_V_A16_6 : runsTo { load 0x0100#16 [0x39#8] [] with h := 0x12#8, l := 0x34#8, sp := 0xFFFE#16 } 8
    (fun t => t.l == 0x32#8 && t.pc == 0x0101#16 && t.f == ⟨false, false, true, true⟩) = true := by decide

/-- V-A16-7 (R200): ADD HL,BC. -/
theorem test_V_A16_7 : runsTo { load 0x0100#16 [0x09#8] [] with h := 0x23#8, l := 0x8A#8, b := 0x05#8, c := 0x06#8, cfg := ⟨0x10000, .lowFirst⟩ } 8
    (fun t => t.h == 0x28#8 && t.l == 0x90#8 && t.pc == 0x0101#16 && t.f == ⟨false, false, true, false⟩) = true := by decide

/-- V-ROT1 (R201): RLCA. -/
theorem test_V_ROT1 : runsTo { load 0x0100#16 [0x07#8] [] with a := 0x85#8 } 4
    (fun t => t.a == 0x0B#8 && t.pc == 0x0101#16 && t.f == ⟨false, false, false, true⟩) = true := by decide

/-- V-ROT3 (R201): RLCA. -/
theorem test_V_ROT3 : runsTo { load 0x0100#16 [0x07#8] [] with a := 0x40#8, f := ⟨false, false, false, true⟩ } 4
    (fun t => t.a == 0x80#8 && t.pc == 0x0101#16 && t.f == ⟨false, false, false, false⟩) = true := by decide

/-- V-ROT4 (R202): RLA. -/
theorem test_V_ROT4 : runsTo { load 0x0100#16 [0x17#8] [] with a := 0x95#8, f := ⟨false, false, false, true⟩ } 4
    (fun t => t.a == 0x2B#8 && t.pc == 0x0101#16 && t.f == ⟨false, false, false, true⟩) = true := by decide

/-- V-ROT7 (R203): RRCA. -/
theorem test_V_ROT7 : runsTo { load 0x0100#16 [0x0F#8] [] with a := 0x3B#8 } 4
    (fun t => t.a == 0x9D#8 && t.pc == 0x0101#16 && t.f == ⟨false, false, false, true⟩) = true := by decide

/-- V-ROT10 (R204): RRA. -/
theorem test_V_ROT10 : runsTo { load 0x0100#16 [0x1F#8] [] with a := 0x81#8 } 4
    (fun t => t.a == 0x40#8 && t.pc == 0x0101#16 && t.f == ⟨false, false, false, true⟩) = true := by decide

/-- V-ROT12 (R204): RRA. -/
theorem test_V_ROT12 : runsTo { load 0x0100#16 [0x1F#8] [] with f := ⟨false, false, false, true⟩ } 4
    (fun t => t.a == 0x80#8 && t.pc == 0x0101#16 && t.f == ⟨false, false, false, false⟩) = true := by decide

/-- V-NOP2 (R205): NOP. -/
theorem test_V_NOP2 : runsTo { load 0xFFFF#16 [0x00#8] [] with a := 0x12#8, f := ⟨true, false, false, true⟩ } 4
    (fun t => t.pc == 0x0000#16 && t.f == ⟨true, false, false, true⟩) = true := by decide

/-- V-FLT1 (R221): undefined. -/
theorem test_V_FLT1 : faultsWith { load 0x0100#16 [0x76#8] [] with h := 0xC0#8 } (.undefinedOpcode 0x76#8 0x0100#16) = true := by decide

/-- V-FLT3 (R221): undefined. -/
theorem test_V_FLT3 : faultsWith (load 0x0100#16 [0xC3#8, 0x00#8, 0x01#8] []) (.undefinedOpcode 0xC3#8 0x0100#16) = true := by decide

/-- V-FLT7 (R222): NOP. -/
theorem test_V_FLT7 : faultsWith { load 0x8000#16 [] [] with cfg := ⟨0x8000, .highFirst⟩ } (.memFault 0x8000#16 .fetch) = true := by decide

/-- V-S5 (R131): the primitive (DE+), which no opcode uses: the store, then DE stepped. -/
theorem test_V_S5 :
    (match load8 (.ind .de .inc) (.reg .a) { load 0x0100#16 [] [] with d := 0x00#8, e := 0x18#8, a := 0x45#8 } with
      | .next t => t.byteAt 0x0018#16 == 0x45#8 && t.getPair .de == 0x0019#16
      | _ => false) = true := by decide

/-- V-P3 (R55), one instance: FromBytes and ToBytes are inverse. -/
theorem test_V_P3 : fromBytes (lsb 0x1234#16) (msb 0x1234#16) = 0x1234#16 ∧ lsb 0x1234#16 = 0x34#8 := by decide

/-- R25: a write of 0xFF to F reads back as 0xF0, through the cell and through AF. -/
theorem test_F_low_bits : (State.reset.setR8 .f 0xFF#8).getR8 .f = 0xF0#8 ∧
    (State.reset.setPair .af 0x12FF#16).getPair .af = 0x12F0#16 := by decide

/-- R88, R100: the name of a code is its cell in the map. -/
theorem test_names : Instr.name .ldIndHLInc_A = "LD (HL+),A" ∧ Instr.name (.ldBC_Imm 0x1234#16) = "LD BC,d16" ∧
    Instr.name .subA_B = "SUB A,B" := by decide

/-- R240, R255: a placed instruction is the first one that runs, from reset and over the wrap of PC. -/
theorem test_withFetchWord :
    runsTo (State.reset.withFetchWord 24 0x123401) 12 (fun t => t.b == 0x12#8 && t.c == 0x34#8 && t.pc == 0x0003#16) = true ∧
    runsTo ({ State.reset with pc := 0xFFFF#16 }.withFetchWord 8 0x06) 8 (fun t => t.b == 0x00#8 && t.pc == 0x0001#16) = true := by
  decide

/-! ### Witnesses: for every statement with hypotheses, data that meets them all -/

/-- A state whose memory ends at 0x7FFF. -/
def small (pc : Word) (code : List Byte) : State := { load pc code [] with cfg := ⟨0x8000, .highFirst⟩ }

theorem test_witness_EncodingIsUnique : decode [0x11#8, 0x34#8, 0x12#8, 0x00#8] = .ok (.ldDE_Imm 0x1234#16, [0x00#8]) := rfl

/-- A three-byte instruction over the wrap of PC, and a one-byte instruction at the last address of a small memory. -/
theorem test_witness_StepRunsDecodedInstruction :
    (let s := load 0xFFFE#16 [0x11#8, 0x34#8, 0x12#8] []
     decode [s.byteAt s.pc, s.byteAt (s.pc + 1#16), s.byteAt (s.pc + 2#16)] = .ok (.ldDE_Imm 0x1234#16, []) ∧
       ∀ k, k < Instr.length (.ldDE_Imm 0x1234#16) → s.inMemory (s.pc + BitVec.ofNat 16 k)) ∧
    (let s := small 0x7FFF#16 [0x41#8]
     decode [s.byteAt s.pc, s.byteAt (s.pc + 1#16), s.byteAt (s.pc + 2#16)] = .ok (.ldB_C, [0x00#8, 0x00#8]) ∧
       ∀ k, k < Instr.length .ldB_C → s.inMemory (s.pc + BitVec.ofNat 16 k)) :=
  ⟨⟨rfl, by decide⟩, ⟨rfl, by decide⟩⟩

/-- One state for each place in the order of the faults, and one with none. -/
theorem test_witness_StepOutcomeIsTheFirstFault :
    expectedFault (small 0x8000#16 []) = some (.memFault 0x8000#16 .fetch) ∧
    expectedFault (small 0x7FFF#16 [0x76#8]) = some (.undefinedOpcode 0x76#8 0x7FFF#16) ∧
    expectedFault (small 0x7FFF#16 [0x21#8]) = some (.memFault 0x8000#16 .imm) ∧
    expectedFault (small 0x7FFE#16 [0x21#8]) = some (.memFault 0x8000#16 .imm) ∧
    expectedFault { small 0x7FFF#16 [0x34#8] with h := 0x80#8 } = some (.memFault 0x8000#16 .read) ∧
    expectedFault { small 0x7FFE#16 [0x36#8] with h := 0x80#8 } = some (.memFault 0x8000#16 .write) ∧
    expectedFault { small 0x7FFE#16 [0x36#8] with h := 0x7F#8, l := 0xFF#8 } = none := by decide

/-- An instruction of each length. -/
theorem test_witness_StepAdvancesPcByLength :
    (∃ t, exec .incB State.reset = .next t) ∧ (∃ t, step (load 0xFFFF#16 [0x04#8] []) = .next t) ∧
    (∃ t, step (load 0x0100#16 [0x06#8, 0x42#8] []) = .next t) ∧
    (∃ t, step (load 0x0100#16 [0x01#8, 0x34#8, 0x12#8] []) = .next t) :=
  ⟨⟨_, rfl⟩, ⟨_, rfl⟩, ⟨_, rfl⟩, ⟨_, rfl⟩⟩

/-- The first and the last of the 76 codes, at the last address of memory. -/
theorem test_witness_UndefinedOpcodeIsReported :
    (small 0x7FFF#16 [0x08#8]).inMemory 0x7FFF#16 ∧ (small 0x7FFF#16 [0x08#8]).byteAt 0x7FFF#16 ∈ undefinedCodes ∧
    (small 0x7FFF#16 [0xFF#8]).byteAt 0x7FFF#16 ∈ undefinedCodes ∧
    faultsWith (small 0x7FFF#16 [0xFF#8]) (.undefinedOpcode 0xFF#8 0x7FFF#16) = true := by decide

/-- A fault of each kind. -/
theorem test_witness_MemFaultNamesAnAccessOutsideMemory :
    step (small 0x8000#16 []) = .fault (.memFault 0x8000#16 .fetch) ∧
    step (small 0x7FFE#16 [0x21#8]) = .fault (.memFault 0x8000#16 .imm) ∧
    step { small 0x7FFF#16 [0xBE#8] with h := 0x80#8 } = .fault (.memFault 0x8000#16 .read) ∧
    step { small 0x7FFF#16 [0x12#8] with d := 0xFF#8, e := 0xFF#8 } = .fault (.memFault 0xFFFF#16 .write) :=
  ⟨rfl, rfl, rfl, rfl⟩

theorem test_witness_FullMemoryHasNoMemFault :
    (load 0xFFFF#16 [0x76#8] []).cfg.memSize = 65536 ∧
    step (load 0xFFFF#16 [0x76#8] []) = .fault (.undefinedOpcode 0x76#8 0xFFFF#16) := ⟨rfl, rfl⟩

/-- A store at the last address of a small memory. -/
theorem test_witness_StepKeepsInvariant :
    (let s := { small 0x0100#16 [0x36#8, 0x99#8] with h := 0x7F#8, l := 0xFF#8 }
     s.inv = true ∧ ∃ t, step s = .next t) := ⟨by decide, _, rfl⟩

/-- The smallest and the largest memory; and an INIT that names an address twice, the last address, and one that does not
exist. -/
theorem test_witness_ConstructionTakesInit :
    Config.wf ⟨1, .lowFirst⟩ = true ∧ Config.wf ⟨65536, .highFirst⟩ = true ∧
    (let init := { Init.zero with bytes := [(0x7FFF, 0x01#8), (0x0005, 0x02#8), (0x7FFF, 0x03#8), (0x8000, 0x04#8)] }
     let s := State.construct ⟨0x8000, .highFirst⟩ init
     s.inMemory 0x7FFF#16 ∧ s.byteAt 0x7FFF#16 = 0x03#8 ∧ lastByteAt init.bytes 0x7FFF = 0x03#8 ∧
     s.inMemory 0x0006#16 ∧ lastByteAt init.bytes 0x0006 = Memory.unlisted ∧
     ¬ s.inMemory 0x8000#16 ∧ s.byteAt 0x8000#16 = Memory.unlisted) := by decide

theorem test_witness_StepWritesMemoryOnlyAtDataWrite :
    ∃ t, step { load 0x0100#16 [0x35#8] [] with h := 0xC0#8 } = .next t := ⟨_, rfl⟩

theorem test_witness_OnlyFlagWritersChangeFlags :
    (∃ t, exec .incB State.reset = .next t) ∧ FlagName.cy ∉ flagsWritten .incB ∧
    (∃ t, exec .addHL_BC State.reset = .next t) ∧ FlagName.z ∉ flagsWritten .addHL_BC ∧ FlagName.n ∉ flagsWritten .ldB_C :=
  ⟨⟨_, rfl⟩, by decide, ⟨_, rfl⟩, by decide, by decide⟩

/-- ADC with the flags it does not read changed, and a form that faults. -/
theorem test_witness_FlagsOtherThanCarryAreNotRead :
    (let f : Flags := ⟨true, true, true, false⟩
     (readsCarry .adcA_B = true → f.cy = State.reset.f.cy) ∧ ∃ t, exec .adcA_B State.reset = .next t) ∧
    (readsCarry .cpIndHL = false ∧
      exec .cpIndHL { small 0x0100#16 [] with h := 0x80#8 } = .fault (.memFault 0x8000#16 .read)) :=
  ⟨⟨fun _ => rfl, _, rfl⟩, by decide, rfl⟩

theorem test_witness_StackPointerIsData :
    (∀ n, Instr.addHL_HL ≠ .ldSP_Imm n) ∧ Instr.addHL_HL ≠ .incSP ∧ Instr.addHL_HL ≠ .decSP ∧ Instr.addHL_HL ≠ .addHL_SP :=
  ⟨nofun, by decide, by decide, by decide⟩

theorem test_witness_PairOrderIsSeenByPairUsersOnly :
    usesPair .ldB_C = false ∧ usesPair (.ldSP_Imm 0x1234#16) = false ∧ usesPair .sbcA_H = false ∧ usesPair .rra = false := by
  decide

/-- A store of INC A's code, of an undefined code, and one where the next opcode byte is at address 0. -/
theorem test_witness_StoreIsSeenByTheNextFetch :
    (let s := { load 0x0103#16 [0x36#8, 0x3C#8] [] with h := 0x01#8, l := 0x05#8 }
     fetch s = .ok (.ldIndHL_Imm 0x3C#8) ∧ s.getPair .hl = s.pc + 2#16 ∧ s.inMemory (s.pc + 2#16)) ∧
    decodeOpcode 0x3C#8 = some (.op .incA) ∧
    (let s := load 0xFFFE#16 [0x36#8, 0x76#8] []
     fetch s = .ok (.ldIndHL_Imm 0x76#8) ∧ s.getPair .hl = s.pc + 2#16 ∧ s.inMemory (s.pc + 2#16)) ∧
    decodeOpcode 0x76#8 = none :=
  ⟨⟨rfl, by decide, by decide⟩, rfl, ⟨rfl, by decide, by decide⟩, rfl⟩

theorem test_witness_NopMemoryRunsWithoutEnd :
    State.reset.cfg.memSize = 65536 ∧ ∀ addr : Word, State.reset.byteAt addr = 0x00#8 := ⟨rfl, fun _ => rfl⟩

theorem test_witness_PlacedWordIsFetched :
    decodeTableWord 24 0x123401 = some (.ldBC_Imm 0x1234#16) ∧ decodeTableWord 8 0x36 = some (.ldIndHL_Imm 0x00#8) := by decide

/-- The clauses about F: under one order F is AF's low cell, under the other its high cell; BC meets the other clauses. -/
theorem test_witness_PairViewsAliasTheirCells :
    Pair.low .af .highFirst = .f ∧ Pair.high .af .highFirst ≠ .f ∧ Pair.high .af .lowFirst = .f ∧
    Pair.low .af .lowFirst ≠ .f ∧ Pair.low .bc .lowFirst ≠ .f := by decide

theorem test_witness_LdRegisterFromRegister :
    (0x41#8, .ldB_C, .b, .c) ∈ registerLoads ∧ (0x7F#8, .ldA_A, .a, .a) ∈ registerLoads := by decide

/-- The last address of memory, and the first outside it. -/
theorem test_witness_LdRegisterFromHL :
    (0x66#8, .ldH_IndHL, .h) ∈ loadsFromHL ∧
    (let s := { small 0x0100#16 [] with h := 0x7F#8, l := 0xFF#8 }; s.inMemory (s.getPair .hl)) ∧
    (let s := { small 0x0100#16 [] with h := 0x80#8 }; ¬ s.inMemory (s.getPair .hl)) := by decide

theorem test_witness_LdHLFromRegister :
    (0x74#8, .ldIndHL_H, .h) ∈ storesToHL ∧
    (let s := { small 0x0100#16 [] with h := 0x7F#8, l := 0xFF#8 }; s.inMemory (s.getPair .hl)) ∧
    (let s := { small 0x0100#16 [] with h := 0x80#8 }; ¬ s.inMemory (s.getPair .hl)) := by decide

/-- The immediate at the last address of memory, and at the first outside it. -/
theorem test_witness_LdRegisterFromImmediate :
    (0x06#8, Instr.ldB_Imm, .b) ∈ immediateLoads ∧
    (let s := small 0x7FFE#16 [0x06#8, 0x42#8]; s.inMemory s.pc ∧ s.byteAt s.pc = 0x06#8 ∧ s.inMemory (s.pc + 1#16)) ∧
    (let s := small 0x7FFF#16 [0x06#8]; s.inMemory s.pc ∧ s.byteAt s.pc = 0x06#8 ∧ ¬ s.inMemory (s.pc + 1#16)) :=
  ⟨List.mem_cons_self, by decide, by decide⟩

theorem test_witness_LdHLFromImmediate :
    (let s := { small 0x7FFE#16 [0x36#8, 0x42#8] with h := 0x7F#8, l := 0xFF#8 }
     s.inMemory s.pc ∧ s.byteAt s.pc = 0x36#8 ∧ s.inMemory (s.pc + 1#16) ∧ s.inMemory (s.getPair .hl)) ∧
    (let s := { small 0x7FFF#16 [0x36#8] with h := 0x80#8 }
     s.inMemory s.pc ∧ s.byteAt s.pc = 0x36#8 ∧ ¬ s.inMemory (s.pc + 1#16) ∧ ¬ s.inMemory (s.getPair .hl)) := by decide

theorem test_witness_StoreAccumulatorAtPair :
    (0x12#8, .ldIndDE_A, .de) ∈ storesOfA ∧
    (let s := { small 0x0100#16 [] with d := 0x7F#8, e := 0xFF#8 }; s.inMemory (s.getPair .de)) ∧
    (let s := { small 0x0100#16 [] with d := 0x80#8 }; ¬ s.inMemory (s.getPair .de)) := by decide

theorem test_witness_LoadAccumulatorFromPair :
    (0x0A#8, .ldA_IndBC, .bc) ∈ loadsOfA ∧
    (let s := { small 0x0100#16 [] with b := 0x7F#8, c := 0xFF#8 }; s.inMemory (s.getPair .bc)) ∧
    (let s := { small 0x0100#16 [] with b := 0x80#8 }; ¬ s.inMemory (s.getPair .bc)) := by decide

/-- HL = 0xFFFF and HL = 0x0000, where the step wraps, and an address outside memory. -/
theorem test_witness_StoreAccumulatorAndStepHL :
    (0x22#8, .ldIndHLInc_A, 1#16) ∈ steppingStores ∧ (0x32#8, .ldIndHLDec_A, 0xFFFF#16) ∈ steppingStores ∧
    (let s := { load 0x0100#16 [] [] with h := 0xFF#8, l := 0xFF#8 }; s.inMemory (s.getPair .hl)) ∧
    (let s := small 0x0100#16 []; s.inMemory (s.getPair .hl)) ∧
    (let s := { small 0x0100#16 [] with h := 0x80#8 }; ¬ s.inMemory (s.getPair .hl)) := by decide

theorem test_witness_LoadAccumulatorAndStepHL :
    (0x2A#8, .ldA_IndHLInc, 1#16) ∈ steppingLoads ∧ (0x3A#8, .ldA_IndHLDec, 0xFFFF#16) ∈ steppingLoads ∧
    (let s := { load 0x0100#16 [] [] with h := 0xFF#8, l := 0xFF#8 }; s.inMemory (s.getPair .hl)) ∧
    (let s := small 0x0100#16 []; s.inMemory (s.getPair .hl)) ∧
    (let s := { small 0x0100#16 [] with h := 0x80#8 }; ¬ s.inMemory (s.getPair .hl)) := by decide

/-- Both bytes inside memory, the second outside, the first outside. -/
theorem test_witness_LdRegister16FromImmediate :
    (0x01#8, Instr.ldBC_Imm, .pair .bc) ∈ immediateLoads16 ∧
    (let s := small 0x7FFD#16 [0x01#8, 0x34#8, 0x12#8]
     s.inMemory s.pc ∧ s.byteAt s.pc = 0x01#8 ∧ s.inMemory (s.pc + 1#16) ∧ s.inMemory (s.pc + 2#16)) ∧
    (let s := small 0x7FFE#16 [0x01#8]
     s.inMemory s.pc ∧ s.byteAt s.pc = 0x01#8 ∧ s.inMemory (s.pc + 1#16) ∧ ¬ s.inMemory (s.pc + 2#16)) ∧
    (let s := small 0x7FFF#16 [0x01#8]; s.inMemory s.pc ∧ s.byteAt s.pc = 0x01#8 ∧ ¬ s.inMemory (s.pc + 1#16)) :=
  ⟨List.mem_cons_self, by decide, by decide, by decide⟩

theorem test_witness_IncRegister16 : (0x33#8, .incSP, .sp) ∈ increments16 ∧ (0x03#8, .incBC, .pair .bc) ∈ increments16 := by decide

theorem test_witness_DecRegister16 : (0x3B#8, .decSP, .sp) ∈ decrements16 ∧ (0x2B#8, .decHL, .pair .hl) ∈ decrements16 := by decide

theorem test_witness_IncRegister8 : (0x04#8, .incB, .b) ∈ increments8 := by decide

theorem test_witness_DecRegister8 : (0x3D#8, .decA, .a) ∈ decrements8 := by decide

/-- INC (HL) and DEC (HL): the last address of memory, and the first outside it. -/
theorem test_witness_IncByteAtHL_DecByteAtHL :
    (let s := { small 0x0100#16 [] with h := 0x7F#8, l := 0xFF#8 }; s.inMemory (s.getPair .hl)) ∧
    (let s := { small 0x0100#16 [] with h := 0x80#8 }; ¬ s.inMemory (s.getPair .hl)) := by decide

/-- The eight operations with a register, A itself and (HL). -/
theorem test_witness_AluRows :
    (0x80#8, .addA_B, .reg .b) ∈ addRows ∧ (0x8F#8, .adcA_A, .reg .a) ∈ adcRows ∧ (0x97#8, .subA_A, .reg .a) ∈ subRows ∧
    (0x9E#8, .sbcA_IndHL, .ind .hl .keep) ∈ sbcRows ∧ (0xA6#8, .andIndHL, .ind .hl .keep) ∈ andRows ∧
    (0xAF#8, .xorA, .reg .a) ∈ xorRows ∧ (0xB0#8, .orB, .reg .b) ∈ orRows ∧ (0xBE#8, .cpIndHL, .ind .hl .keep) ∈ cpRows := by
  decide

/-- Operands that can be read and one that cannot. -/
theorem test_witness_AluOperands :
    Readable State.reset (.reg .b) ∧ Readable { small 0x0100#16 [] with h := 0x7F#8, l := 0xFF#8 } (.ind .hl .keep) ∧
    ¬ Readable { small 0x0100#16 [] with h := 0x80#8 } (.ind .hl .keep) :=
  ⟨trivial, by unfold Readable; decide, by unfold Readable; decide⟩

theorem test_witness_AddToHL : (0x29#8, .addHL_HL, .pair .hl) ∈ addsToHL ∧ (0x39#8, .addHL_SP, .sp) ∈ addsToHL := by decide

theorem test_witness_NopChangesOnlyPc : fetch (load 0xFFFF#16 [0x00#8] []) = .ok .nop := rfl

theorem test_witness_SubtractThenAddRestores :
    (0x90#8, .subA_B, .reg .b) ∈ subRows ∧ (0x80#8, .addA_B, .reg .b) ∈ addRows ∧ Reg8.b ≠ .a := by decide

/-- The corner where the two half-borrow formulas differ: B = 0x0F with a borrow in. -/
theorem test_witness_HalfBorrowIsTheStandardOne : (0x0F#8 : Byte).toNat % 16 = 15 ∧ (sub8 0x10#8 0x0F#8 true).half = true := by decide

theorem test_witness_DriverKeepsInvariant :
    State.reset.inv = true ∧ (∃ t, driverWrite (.load 0xFFFF#16 [0x3E#8, 0x42#8]) State.reset = .ok t) ∧
    (∃ t, driverWrite (.setBit .b 7 true) State.reset = .ok t) := ⟨by decide, ⟨_, rfl⟩, ⟨_, rfl⟩⟩

theorem test_witness_DriverWritesWhatItNames :
    (small 0x0100#16 []).inMemory 0x7FFF#16 ∧ ¬ (small 0x0100#16 []).inMemory 0x8000#16 ∧
    driverWrite (.setBit .b 8 true) State.reset = .error (.invariantViolation .bitIndex) ∧
    (∃ t, driverWrite (.setBit .b 7 true) State.reset = .ok t) := ⟨by decide, by decide, rfl, ⟨_, rfl⟩⟩

/-- The bits of F at both ends of its two halves, and AF under each order. -/
theorem test_driver_bits_and_pairs :
    driverWrite (.setBit .f 3 true) State.reset = .ok State.reset ∧
    driverWrite (.setBit .f 4 true) State.reset = .ok { State.reset with f := ⟨false, false, false, true⟩ } ∧
    driverWrite (.setPair .af 0x12FF#16) State.reset =
      .ok { State.reset with a := 0x12#8, f := ⟨true, true, true, true⟩ } := ⟨rfl, rfl, rfl⟩

/-- A load up to the last address, over the wrap of the address space, and past the end of memory. -/
theorem test_witness_DriverLoad :
    (∀ k, k < [0x3E#8, 0x42#8].length → (small 0x0100#16 []).inMemory (loadAddress 0x7FFE#16 k)) ∧
    (∀ k, k < [0x3E#8, 0x42#8].length → State.reset.inMemory (loadAddress 0xFFFF#16 k)) ∧
    (∀ later, later < [0x3E#8, 0x42#8].length → 0 < later → loadAddress 0xFFFF#16 later ≠ loadAddress 0xFFFF#16 0) ∧
    ((small 0x0100#16 []).inMemory (loadAddress 0x7FFF#16 0) ∧ ¬ (small 0x0100#16 []).inMemory (loadAddress 0x7FFF#16 1)) ∧
    driverWrite (.load 0x7FFF#16 [0x3E#8, 0x42#8]) (small 0x0100#16 []) = .error (.memFault 0x8000#16 .write) :=
  ⟨by decide, by decide, by decide, by decide, rfl⟩

end Sys2Proof.Tests
end

section
/-! No instruction writes PC (40_datapath.md R141): the writes of an operand and of the ALU keep it, so each form does, so
`exec` does; the step then adds the instruction's length. -/

namespace Sys2Proof.Machine

/-- An operand write goes to a register or to one byte of memory, and neither holds PC (R128, R129). -/
theorem ByteSource.set_pc {dst : ByteSource} {v : Byte} {s t : State} (h : dst.set v s = .ok t) : t.pc = s.pc := by
  obtain ⟨r, -, rfl⟩ | ⟨p, post, -, -, rfl⟩ := ByteSource.set_eq_ok.mp h
  · exact setR8_pc ..
  · exact storeByte_pc ..

@[simp] theorem AluOp.result_pc (op : AluOp) (s : State) (v : Byte) : (op.result s v).pc = s.pc := by
  cases op <;> simp [AluOp.result, State.setAFlags, State.setALogic]

theorem Form.run_pc {form : Form} {s t : State} (h : form.run s = .next t) : t.pc = s.pc := by
  cases form with
  | nop => cases h; rfl
  | rot k => cases h; simp
  | ld dst src =>
    obtain ⟨-, u, hset, rfl⟩ := load8_eq_next.mp h
    simpa using ByteSource.set_pc hset
  | ldImm8 dst n => exact ByteSource.set_pc (loadImm8_eq_next.mp h)
  | ldImm16 r n => cases h; simp
  | inc16 r => cases h; simp
  | dec16 r => cases h; simp
  | inc8 operand =>
    obtain ⟨-, u, hset, rfl⟩ := incOperand_eq_next.mp h
    simpa [State.setIncDecFlags] using ByteSource.set_pc hset
  | dec8 operand =>
    obtain ⟨-, u, hset, rfl⟩ := decOperand_eq_next.mp h
    simpa [State.setIncDecFlags] using ByteSource.set_pc hset
  | alu op src =>
    obtain ⟨-, rfl⟩ := AluOp.run_eq_next.mp h
    exact AluOp.result_pc ..
  | addHL r => cases h; simp

theorem exec_pc {i : Instr} {s t : State} (h : exec i s = .next t) : t.pc = s.pc :=
  Form.run_pc (exec_eq_form i s ▸ h)

/-- An instruction is its opcode byte and an immediate of no, one or two bytes (R81, R102). -/
theorem length_eq_one_or_two_or_three (i : Instr) : i.length = 1 ∨ i.length = 2 ∨ i.length = 3 := by
  unfold Instr.length
  cases i.form <;> simp

end Sys2Proof.Machine

namespace Sys2Proof.Claims

open Machine

/-- Settles O6: every form keeps PC, and a step that reaches a next state advances PC past what it fetched. -/
theorem stepAdvancesPcByLength : Obligations.StepAdvancesPcByLength := by
  refine ⟨fun i s t => exec_pc, fun s t hstep => ?_⟩
  obtain ⟨i, u, hfetch, -, rfl⟩ := step_eq_next.mp hstep
  exact ⟨i, hfetch, by rw [advancePc_eq], length_eq_one_or_two_or_three i⟩

end Sys2Proof.Claims
end

section
/-! The loads and stores of A through a pair (41_loads.md R165 to R172): what `load8` answers for a register stored through
a pair and for a register loaded through one, inside memory and outside, and what each update it is made of leaves
unchanged. -/

namespace Sys2Proof.Machine

/-! ### The access -/

section
variable {i : Instr} {p : Pair} {post : Post} {r : Reg8} {s : State}

theorem exec_store_next (hform : i.form = .ld (.ind p post) (.reg r)) (hin : s.inMemory (s.getPair p)) :
    exec i s = .next ((ByteSource.ind p post).afterAccess (s.storeByte (s.getPair p) (s.getR8 r))) := by
  rw [exec_eq_form, hform]
  exact load8_eq_next.mpr ⟨trivial, _, ByteSource.set_eq_ok.mpr (.inr ⟨p, post, rfl, hin, rfl⟩), rfl⟩

theorem exec_store_fault (hform : i.form = .ld (.ind p post) (.reg r)) (hout : ¬ s.inMemory (s.getPair p)) :
    exec i s = .fault (.memFault (s.getPair p) .write) := by
  have hset : (ByteSource.ind p post).set (s.getR8 r) s = .error (.memFault (s.getPair p) .write) :=
    memWrite_eq_error.mpr ⟨hout, rfl⟩
  rw [exec_eq_form, hform]
  exact commit_eq_fault.mpr (bind_eq_error.mpr (.inr ⟨s.getR8 r, rfl, bind_eq_error.mpr (.inl hset)⟩))

theorem exec_load_next (hform : i.form = .ld (.reg r) (.ind p post)) (hin : s.inMemory (s.getPair p)) :
    exec i s = .next ((ByteSource.ind p post).afterAccess (s.setR8 r (s.byteAt (s.getPair p)))) := by
  rw [exec_eq_form, hform]
  exact load8_eq_next.mpr ⟨hin, _, rfl, rfl⟩

theorem exec_load_fault (hform : i.form = .ld (.reg r) (.ind p post)) (hout : ¬ s.inMemory (s.getPair p)) :
    exec i s = .fault (.memFault (s.getPair p) .read) := by
  have hget : (ByteSource.ind p post).get s = .error (.memFault (s.getPair p) .read) :=
    memRead_eq_error.mpr ⟨hout, rfl⟩
  rw [exec_eq_form, hform]
  exact commit_eq_fault.mpr (bind_eq_error.mpr (.inl hget))
end

/-! ### The step of the pointer -/

/-- What a post-modification adds to its pointer, modulo 2^16 (R131). -/
def Post.delta : Post → Word
  | .keep => 0#16 | .inc => 1#16 | .dec => 0xFFFF#16

theorem dec16_eq_add (v : Word) : dec16 v = v + 0xFFFF#16 := by
  unfold dec16
  bv_omega

@[simp] theorem afterAccess_byteAt (src : ByteSource) (s : State) (addr : Word) :
    (src.afterAccess s).byteAt addr = s.byteAt addr := by
  simp [State.byteAt]

theorem getPair_afterAccess {p : Pair} (post : Post) (s : State) (hp : p ≠ .af) :
    ((ByteSource.ind p post).afterAccess s).getPair p = s.getPair p + post.delta := by
  cases post with
  | keep => exact (BitVec.add_zero _).symm
  | inc => exact getPair_setPair _ _ _ hp
  | dec => exact (getPair_setPair _ _ _ hp).trans (dec16_eq_add _)

theorem getPair_setR8_ne {p : Pair} {r : Reg8} (s : State) (v : Byte) (h1 : p.first ≠ r) (h2 : p.second ≠ r) :
    (s.setR8 r v).getPair p = s.getPair p := by
  unfold State.getPair
  rw [setR8_cfg]
  cases s.cfg.pairOrder <;> simp only [Pair.high, Pair.low] <;>
    rw [getR8_setR8_ne _ _ _ _ h1, getR8_setR8_ne _ _ _ _ h2]

end Sys2Proof.Machine

namespace Sys2Proof.Claims

open Machine

/-! ### What each update leaves unchanged -/

/-- With F kept as a whole, a frame is a claim about the other cells, SP, PC and the configuration. -/
theorem Frame.of_f_eq {cells : List Reg8} {flags : List FlagName} {spWritten : Bool} {s t : State}
    (hcells : ∀ r : Reg8, r ≠ .f → r ∉ cells → t.getR8 r = s.getR8 r) (hf : t.f = s.f)
    (hsp : t.sp = s.sp) (hpc : t.pc = s.pc) (hcfg : t.cfg = s.cfg) : Frame cells flags spWritten s t := by
  refine ⟨hcells, fun name _ => ?_, ?_, fun _ => hsp, hpc, hcfg⟩
  · cases name <;> simp [State.flag, hf]
  · simp [State.getR8, hf]

/-- Two updates in a row leave unchanged what both leave unchanged. -/
theorem Frame.trans {cells cells' : List Reg8} {flags flags' : List FlagName} {sp sp' : Bool} {s t u : State}
    (h : Frame cells flags sp s t) (h' : Frame cells' flags' sp' t u) :
    Frame (cells ++ cells') (flags ++ flags') (sp || sp') s u := by
  obtain ⟨hcells, hflags, hlow, hsp, hpc, hcfg⟩ := h
  obtain ⟨hcells', hflags', hlow', hsp', hpc', hcfg'⟩ := h'
  refine ⟨fun r hr hn => ?_, fun name hn => ?_, hlow'.trans hlow, fun hn => ?_, hpc'.trans hpc, hcfg'.trans hcfg⟩
  · rw [List.mem_append, not_or] at hn
    exact (hcells' r hr hn.2).trans (hcells r hr hn.1)
  · rw [List.mem_append, not_or] at hn
    exact (hflags' name hn.2).trans (hflags name hn.1)
  · rw [Bool.or_eq_false_iff] at hn
    exact (hsp' hn.2).trans (hsp hn.1)

theorem frame_storeByte (s : State) (addr : Word) (v : Byte) : Frame [] [] false s (s.storeByte addr v) :=
  .of_f_eq (fun r _ _ => storeByte_getR8 s addr v r) rfl rfl rfl rfl

theorem frame_setR8 {r : Reg8} (s : State) (v : Byte) (hr : r ≠ .f) : Frame [r] [] false s (s.setR8 r v) :=
  .of_f_eq (fun other _ hn => getR8_setR8_ne s r v other (List.ne_of_not_mem_cons hn))
    (setR8_f s r v hr) (setR8_sp s r v) (setR8_pc s r v) (setR8_cfg s r v)

theorem frame_setPair {p : Pair} (s : State) (v : Word) (hp : p ≠ .af) :
    Frame [p.first, p.second] [] false s (s.setPair p v) :=
  .of_f_eq (fun r _ hn => setPair_getR8 s p v r (by simp_all) (by simp_all))
    (setPair_f s p v hp) (setPair_sp s p v) (setPair_pc s p v) (setPair_cfg s p v)

theorem frame_afterAccess (p : Pair) (post : Post) (s : State) (hp : p ≠ .af) :
    Frame [p.first, p.second] [] false s ((ByteSource.ind p post).afterAccess s) := by
  cases post with
  | keep => exact .of_f_eq (fun _ _ _ => rfl) rfl rfl rfl rfl
  | inc => exact frame_setPair s _ hp
  | dec => exact frame_setPair s _ hp

theorem byteAt_storeByte_self (s : State) (addr : Word) (v : Byte) : (s.storeByte addr v).byteAt addr = v := by
  rw [byteAt_storeByte, if_pos rfl]

theorem memSameExcept_storeByte (s : State) (addr : Word) (v : Byte) : MemSameExcept addr s (s.storeByte addr v) :=
  fun other hne => by rw [byteAt_storeByte, if_neg hne]

/-! ### The rows of the opcode map: code, cycles and operands -/

theorem storesOfA_row {code : Byte} {i : Instr} {p : Pair} (hrow : (code, i, p) ∈ storesOfA) :
    EncodedAs i [code] ∧ i.cycles = 8 ∧ i.form = .ld (.ind p .keep) (.reg .a) := by
  simp only [storesOfA, List.mem_cons, List.not_mem_nil, or_false, Prod.mk.injEq] at hrow
  obtain ⟨rfl, rfl, rfl⟩ | ⟨rfl, rfl, rfl⟩ := hrow
  · exact ⟨⟨rfl, fun _ => rfl⟩, rfl, rfl⟩
  · exact ⟨⟨rfl, fun _ => rfl⟩, rfl, rfl⟩

theorem loadsOfA_row {code : Byte} {i : Instr} {p : Pair} (hrow : (code, i, p) ∈ loadsOfA) :
    EncodedAs i [code] ∧ i.cycles = 8 ∧ i.form = .ld (.reg .a) (.ind p .keep) := by
  simp only [loadsOfA, List.mem_cons, List.not_mem_nil, or_false, Prod.mk.injEq] at hrow
  obtain ⟨rfl, rfl, rfl⟩ | ⟨rfl, rfl, rfl⟩ := hrow
  · exact ⟨⟨rfl, fun _ => rfl⟩, rfl, rfl⟩
  · exact ⟨⟨rfl, fun _ => rfl⟩, rfl, rfl⟩

theorem steppingStores_row {code : Byte} {i : Instr} {delta : Word} (hrow : (code, i, delta) ∈ steppingStores) :
    EncodedAs i [code] ∧ i.cycles = 8 ∧
      ∃ post : Post, i.form = .ld (.ind .hl post) (.reg .a) ∧ post.delta = delta := by
  simp only [steppingStores, List.mem_cons, List.not_mem_nil, or_false, Prod.mk.injEq] at hrow
  obtain ⟨rfl, rfl, rfl⟩ | ⟨rfl, rfl, rfl⟩ := hrow
  · exact ⟨⟨rfl, fun _ => rfl⟩, rfl, .inc, rfl, rfl⟩
  · exact ⟨⟨rfl, fun _ => rfl⟩, rfl, .dec, rfl, rfl⟩

theorem steppingLoads_row {code : Byte} {i : Instr} {delta : Word} (hrow : (code, i, delta) ∈ steppingLoads) :
    EncodedAs i [code] ∧ i.cycles = 8 ∧
      ∃ post : Post, i.form = .ld (.reg .a) (.ind .hl post) ∧ post.delta = delta := by
  simp only [steppingLoads, List.mem_cons, List.not_mem_nil, or_false, Prod.mk.injEq] at hrow
  obtain ⟨rfl, rfl, rfl⟩ | ⟨rfl, rfl, rfl⟩ := hrow
  · exact ⟨⟨rfl, fun _ => rfl⟩, rfl, .inc, rfl, rfl⟩
  · exact ⟨⟨rfl, fun _ => rfl⟩, rfl, .dec, rfl, rfl⟩

/-! ### The obligations -/

/-- Settles O30: the pointer is kept, so the next state is the old one with A stored at the pair. -/
theorem storeAccumulatorAtPair : Obligations.StoreAccumulatorAtPair := by
  intro code i p hrow
  obtain ⟨henc, hcycles, hform⟩ := storesOfA_row hrow
  refine ⟨henc, hcycles, fun s => ⟨fun hin => ?_, exec_store_fault hform⟩⟩
  exact ⟨_, exec_store_next hform hin, byteAt_storeByte_self .., frame_storeByte .., memSameExcept_storeByte s _ _⟩

/-- Settles O31: the pointer is kept, so the next state is the old one with A set to the byte at the pair. -/
theorem loadAccumulatorFromPair : Obligations.LoadAccumulatorFromPair := by
  intro code i p hrow
  obtain ⟨henc, hcycles, hform⟩ := loadsOfA_row hrow
  refine ⟨henc, hcycles, fun s => ⟨fun hin => ?_, exec_load_fault hform⟩⟩
  exact ⟨_, exec_load_next hform hin, rfl, frame_setR8 s _ (by decide), setR8_byteAt s _ _⟩

/-- Settles O32: the store is at the old HL and keeps HL, which the post-modification then steps without a byte of memory
changed. -/
theorem storeAccumulatorAndStepHL : Obligations.StoreAccumulatorAndStepHL := by
  intro code i delta hrow
  obtain ⟨henc, hcycles, post, hform, rfl⟩ := steppingStores_row hrow
  refine ⟨henc, hcycles, fun s => ⟨fun hin => ⟨_, exec_store_next hform hin, ?_, ?_, ?_, fun addr hne => ?_⟩,
    exec_store_fault hform⟩⟩
  · rw [afterAccess_byteAt, byteAt_storeByte_self]
    rfl
  · rw [getPair_afterAccess _ _ (by decide), storeByte_getPair]
  · exact (frame_storeByte ..).trans (frame_afterAccess .hl post _ (by decide))
  · rw [afterAccess_byteAt]
    exact memSameExcept_storeByte _ _ _ _ hne

/-- Settles O33: A is set to the byte at the old HL, and the post-modification then steps HL, of which A is no cell. -/
theorem loadAccumulatorAndStepHL : Obligations.LoadAccumulatorAndStepHL := by
  intro code i delta hrow
  obtain ⟨henc, hcycles, post, hform, rfl⟩ := steppingLoads_row hrow
  refine ⟨henc, hcycles, fun s => ⟨fun hin => ⟨_, exec_load_next hform hin, ?_, ?_, ?_, fun addr => ?_⟩,
    exec_load_fault hform⟩⟩
  · obtain ⟨hcells, -⟩ := frame_afterAccess .hl post (s.setR8 .a (s.byteAt (s.getPair .hl))) (by decide)
    exact hcells .a (by decide) (by decide)
  · rw [getPair_afterAccess _ _ (by decide), getPair_setR8_ne _ _ (by decide) (by decide)]
  · exact (frame_setR8 s _ (by decide)).trans (frame_afterAccess .hl post _ (by decide))
  · rw [afterAccess_byteAt, setR8_byteAt]

end Sys2Proof.Claims
end

section
/-! INC rr and DEC rr (42_inc_dec.md R180, R181): each is one write of a 16-bit register, of its value stepped modulo 2^16. -/

namespace Sys2Proof.Machine

theorem toNat_inc16 (v : Word) : (inc16 v).toNat = (v.toNat + 1) % 65536 := BitVec.toNat_add v 1#16

theorem toNat_dec16 (v : Word) : (dec16 v).toNat = (v.toNat + 65535) % 65536 := by
  rw [dec16_eq_add]
  exact BitVec.toNat_add v 0xFFFF#16

section
variable {i : Instr} {r : Reg16}

theorem exec_inc16 (hform : i.form = .inc16 r) (s : State) :
    exec i s = .next (s.setR16 r (inc16 (s.getR16 r))) := by
  rw [exec_eq_form, hform]
  rfl

theorem exec_dec16 (hform : i.form = .dec16 r) (s : State) :
    exec i s = .next (s.setR16 r (dec16 (s.getR16 r))) := by
  rw [exec_eq_form, hform]
  rfl
end

end Sys2Proof.Machine

namespace Sys2Proof.Claims

open Machine

/-- A pair lives in its two cells and SP in none, so a write of a 16-bit register other than AF changes no flag. -/
theorem frame_setR16 {r : Reg16} (s : State) (v : Word) (hr : r ≠ .pair .af) :
    Frame (cellsOf r) [] (r = .sp) s (s.setR16 r v) := by
  cases r with
  | pair p => exact frame_setPair s v (fun hp => hr (congrArg Reg16.pair hp))
  | sp => exact ⟨fun r _ _ => by cases r <;> rfl, fun name _ => by cases name <;> rfl, rfl, nofun, rfl, rfl⟩

theorem increments16_row {code : Byte} {i : Instr} {r : Reg16} (hrow : (code, i, r) ∈ increments16) :
    EncodedAs i [code] ∧ i.cycles = 8 ∧ i.form = .inc16 r ∧ r ≠ .pair .af := by
  simp only [increments16, List.mem_cons, List.not_mem_nil, or_false, Prod.mk.injEq] at hrow
  obtain ⟨rfl, rfl, rfl⟩ | ⟨rfl, rfl, rfl⟩ | ⟨rfl, rfl, rfl⟩ | ⟨rfl, rfl, rfl⟩ := hrow <;>
    exact ⟨⟨rfl, fun _ => rfl⟩, rfl, rfl, by decide⟩

theorem decrements16_row {code : Byte} {i : Instr} {r : Reg16} (hrow : (code, i, r) ∈ decrements16) :
    EncodedAs i [code] ∧ i.cycles = 8 ∧ i.form = .dec16 r ∧ r ≠ .pair .af := by
  simp only [decrements16, List.mem_cons, List.not_mem_nil, or_false, Prod.mk.injEq] at hrow
  obtain ⟨rfl, rfl, rfl⟩ | ⟨rfl, rfl, rfl⟩ | ⟨rfl, rfl, rfl⟩ | ⟨rfl, rfl, rfl⟩ := hrow <;>
    exact ⟨⟨rfl, fun _ => rfl⟩, rfl, rfl, by decide⟩

/-- Settles O35: rr then reads as its old value stepped up, and the write of rr leaves all else unchanged. -/
theorem incRegister16 : Obligations.IncRegister16 := by
  intro code i r hrow
  obtain ⟨henc, hcycles, hform, hr⟩ := increments16_row hrow
  refine ⟨henc, hcycles, fun s => ⟨_, exec_inc16 hform s, ?_, frame_setR16 s _ hr, setR16_byteAt s r _⟩⟩
  rw [getR16_setR16 _ _ _ hr, toNat_inc16]

/-- Settles O36: rr then reads as its old value stepped down, and the write of rr leaves all else unchanged. -/
theorem decRegister16 : Obligations.DecRegister16 := by
  intro code i r hrow
  obtain ⟨henc, hcycles, hform, hr⟩ := decrements16_row hrow
  refine ⟨henc, hcycles, fun s => ⟨_, exec_dec16 hform s, ?_, frame_setR16 s _ hr, setR16_byteAt s r _⟩⟩
  rw [getR16_setR16 _ _ _ hr, toNat_dec16]

end Sys2Proof.Claims
end

section
/-! NOP (44_alu16_rotate_nop.md R205): the instruction that writes nothing, so that a step of it is the advance of PC. -/

namespace Sys2Proof.Machine

theorem exec_nop (s : State) : exec .nop s = .next s := exec_eq_form .nop s

end Sys2Proof.Machine

namespace Sys2Proof.Claims

open Machine

/-- Settles O52: NOP answers its own state, and the step then advances PC past the one byte it fetched. -/
theorem nopChangesOnlyPc : Obligations.NopChangesOnlyPc := by
  refine ⟨⟨rfl, fun _ => rfl⟩, rfl, exec_nop, fun s hfetch => ?_⟩
  exact step_eq_next.mpr ⟨.nop, s, hfetch, exec_nop s, (advancePc_eq s.pc .nop s).symm⟩

end Sys2Proof.Claims
end

section
/-! UndefinedOpcode (60_exceptions.md R221): the decoder selects nothing exactly at the 76 undefined codes, the fetch then
reports it before any immediate byte is read, and every other fault a step can report is a MemFault. -/

namespace Sys2Proof.Machine

/-! ### Every other fault is an access outside memory -/

/-- The fault is a MemFault that names an address outside the memory of a state (R222). -/
def AccessOutside (s : State) (fault : Fault) : Prop :=
  ∃ addr kind, ¬ s.inMemory addr ∧ fault = .memFault addr kind

/-- A computation faults only by an access outside the memory of a state. -/
def FaultsOutside {α : Type} (s : State) (r : Except Fault α) : Prop :=
  ∀ fault, r = .error fault → AccessOutside s fault

section
variable {s : State}

theorem not_accessOutside_undefinedOpcode (code : Byte) (pc : Word) : ¬ AccessOutside s (.undefinedOpcode code pc) := by
  rintro ⟨addr, kind, -, h⟩
  cases h

theorem FaultsOutside.ok {α : Type} (v : α) : FaultsOutside s (.ok v) := nofun

theorem FaultsOutside.bind {α β : Type} {x : Except Fault α} {f : α → Except Fault β}
    (hx : FaultsOutside s x) (hf : ∀ v, FaultsOutside s (f v)) : FaultsOutside s (x >>= f) := by
  intro fault h
  obtain h | ⟨v, -, h⟩ := bind_eq_error.mp h
  · exact hx fault h
  · exact hf v fault h

theorem FaultsOutside.map {α β : Type} {x : Except Fault α} (hx : FaultsOutside s x) (f : α → β) :
    FaultsOutside s (x.map f) := by
  cases x with
  | ok v => exact .ok (f v)
  | error fault => rintro _ ⟨⟩; exact hx fault rfl

theorem memRead_faultsOutside (addr : Word) (kind : AccessKind) : FaultsOutside s (memRead s addr kind) :=
  fun _ h => ⟨addr, kind, memRead_eq_error.mp h⟩

theorem ByteSource.get_faultsOutside (src : ByteSource) : FaultsOutside s (src.get s) := by
  cases src with
  | reg r => exact .ok _
  | ind p post => exact memRead_faultsOutside _ _

theorem ByteSource.set_faultsOutside (dst : ByteSource) (v : Byte) : FaultsOutside s (dst.set v s) := by
  cases dst with
  | reg r => exact .ok _
  | ind p post => exact fun _ h => ⟨_, _, memWrite_eq_error.mp h⟩

theorem fetchOperand_faultsOutside (t : Template) : FaultsOutside s (fetchOperand t s) := by
  cases t with
  | op i => exact .ok i
  | d8 mk => exact (memRead_faultsOutside _ _).map mk
  | d16 mk =>
    have himm16 : FaultsOutside s (imm16 s) :=
      (memRead_faultsOutside _ _).bind fun _ => (memRead_faultsOutside _ _).bind fun _ => .ok _
    exact himm16.map mk

theorem withOperand_fault {src : ByteSource} {f : Byte → State} {fault : Fault}
    (h : withOperand src s f = .fault fault) : AccessOutside s fault :=
  (src.get_faultsOutside.bind fun _ => .ok _) fault (commit_eq_fault.mp h)

/-- The faults of a form are those of its operand's read and write (R128, R129). -/
theorem Form.run_fault {form : Form} {fault : Fault} (h : form.run s = .fault fault) : AccessOutside s fault := by
  cases form with
  | nop | rot | ldImm16 | inc16 | dec16 | addHL => cases h
  | ld dst src =>
    exact (src.get_faultsOutside.bind fun v => (dst.set_faultsOutside v).bind fun _ => .ok _) fault
      (commit_eq_fault.mp h)
  | ldImm8 dst n => exact dst.set_faultsOutside n fault (commit_eq_fault.mp h)
  | inc8 operand | dec8 operand =>
    exact (operand.get_faultsOutside.bind fun _ => (operand.set_faultsOutside _).bind fun _ => .ok _) fault
      (commit_eq_fault.mp h)
  | alu op src => cases op <;> exact withOperand_fault h

/-- An instruction that has been fetched faults only by an access outside memory. -/
theorem exec_fault {i : Instr} {fault : Fault} (h : exec i s = .fault fault) : AccessOutside s fault :=
  Form.run_fault (exec_eq_form i s ▸ h)

/-! ### The fetch -/

/-- A fetch faults at the opcode byte, at an undefined code, or at an immediate byte, in that order (R140, R227). -/
theorem fetch_eq_error {fault : Fault} :
    fetch s = .error fault ↔
      (¬ s.inMemory s.pc ∧ fault = .memFault s.pc .fetch) ∨
      (s.inMemory s.pc ∧ decodeOpcode (s.byteAt s.pc) = none ∧ fault = .undefinedOpcode (s.byteAt s.pc) s.pc) ∨
      (s.inMemory s.pc ∧ ∃ t, decodeOpcode (s.byteAt s.pc) = some t ∧ fetchOperand t s = .error fault) := by
  simp only [fetch, bind_eq_error, memRead_eq_error, memRead_eq_ok, and_assoc, exists_and_left, exists_eq_left,
    ← and_or_left]
  cases decodeOpcode (s.byteAt s.pc) <;> simp [raise, eq_comm]

theorem fetch_eq_undefinedOpcode {code : Byte} {pc : Word} :
    fetch s = .error (.undefinedOpcode code pc) ↔
      s.inMemory s.pc ∧ decodeOpcode (s.byteAt s.pc) = none ∧ code = s.byteAt s.pc ∧ pc = s.pc := by
  rw [fetch_eq_error]
  constructor
  · rintro (⟨-, h⟩ | ⟨hin, hnone, h⟩ | ⟨-, t, -, h⟩)
    · cases h
    · cases h
      exact ⟨hin, hnone, rfl, rfl⟩
    · exact absurd (fetchOperand_faultsOutside t _ h) (not_accessOutside_undefinedOpcode _ _)
  · rintro ⟨hin, hnone, rfl, rfl⟩
    exact .inr (.inl ⟨hin, hnone, rfl⟩)

/-- A step reports UndefinedOpcode in its fetch only. -/
theorem step_eq_undefinedOpcode {code : Byte} {pc : Word} :
    step s = .fault (.undefinedOpcode code pc) ↔
      s.inMemory s.pc ∧ decodeOpcode (s.byteAt s.pc) = none ∧ code = s.byteAt s.pc ∧ pc = s.pc := by
  have hexec : ¬ ∃ i, fetch s = .ok i ∧ exec i s = .fault (.undefinedOpcode code pc) :=
    fun ⟨_, _, h⟩ => not_accessOutside_undefinedOpcode _ _ (exec_fault h)
  rw [step_eq_fault, or_iff_left hexec, fetch_eq_undefinedOpcode]
end

end Sys2Proof.Machine

namespace Sys2Proof.Claims

open Machine

/-- The decoder selects nothing exactly at the 76 undefined codes (R89): a check of the 256 opcode bytes. -/
theorem decodeOpcode_eq_none_iff (code : Byte) : decodeOpcode code = none ↔ code ∈ undefinedCodes := by
  have hall : ∀ code : Byte, (decodeOpcode code).isNone = true ↔ code ∈ undefinedCodes := by decide
  rw [← hall, Option.isNone_iff_eq_none]

/-- Settles O7: a step reports UndefinedOpcode exactly where the byte at PC is in memory and selects no instruction. -/
theorem undefinedOpcodeIsReported : Obligations.UndefinedOpcodeIsReported := by
  refine fun s => ⟨fun hin hcode => ?_, fun code pc hstep => ?_⟩
  · exact step_eq_undefinedOpcode.mpr ⟨hin, (decodeOpcode_eq_none_iff _).mpr hcode, rfl, rfl⟩
  · obtain ⟨hin, hnone, rfl, rfl⟩ := step_eq_undefinedOpcode.mp hstep
    exact ⟨hin, rfl, (decodeOpcode_eq_none_iff _).mp hnone, rfl⟩

end Sys2Proof.Claims
end

section
/-! The decoder and the encoder (30_encoding.md R88, R97): the 256 codes are checked once, row by row of the opcode map, and
everything else about a decoded instruction follows from what its opcode byte selects and the immediate that this takes. -/

namespace Sys2Proof

open Machine

/-! ### The 256 codes -/

/-- The values of a function of the opcode byte, laid out as the opcode map is (R88): by high, then low hex digit. -/
def opcodeMap {α : Type} (f : Byte → α) : List (List α) :=
  (List.range 16).map fun hi => (List.range 16).map fun lo => f (BitVec.ofNat 8 (16 * hi + lo))

theorem eq_of_opcodeMap_eq {α : Type} {f g : Byte → α} (h : opcodeMap f = opcodeMap g) (code : Byte) : f code = g code := by
  have hhi : code.toNat / 16 ∈ List.range 16 := List.mem_range.mpr (by omega)
  have hlo : code.toNat % 16 ∈ List.range 16 := List.mem_range.mpr (by omega)
  have hrow := List.map_inj_left.mp (List.map_inj_left.mp h _ hhi) _ hlo
  rwa [Nat.div_add_mod, BitVec.ofNat_toNat, BitVec.setWidth_eq] at hrow

/-! ### What an opcode byte selects -/

/-- The instruction that a template makes of the word after the opcode byte; a d8 is the word's low byte (R86, R87). -/
def Template.instr (t : Template) (w : Word) : Instr :=
  match t with
  | .op i => i
  | .d8 mk => mk (lsb w)
  | .d16 mk => mk w

/-- The immediate bytes of that instruction. -/
def Template.immediate (t : Template) (w : Word) : List Byte := [lsb w, msb w].take (t.length - 1)

/-- What an opcode byte selects is encoded as that byte and its immediate: each of the 256 codes is computed, with the
immediate left open. -/
theorem encode_instr {code : Byte} {t : Template} (h : decodeOpcode code = some t) (w : Word) :
    encode (t.instr w) = code :: t.immediate w := by
  have hmap : opcodeMap (fun code => (decodeOpcode code).map fun t => encode (t.instr w)) =
      opcodeMap (fun code => (decodeOpcode code).map fun t => code :: t.immediate w) := rfl
  simpa [h] using eq_of_opcodeMap_eq hmap code

theorem length_immediate (t : Template) (w : Word) : (t.immediate w).length = t.length - 1 := by
  cases t <;> rfl

theorem length_encode (i : Instr) : (encode i).length = i.length := by cases i <;> rfl

theorem length_instr {code : Byte} {t : Template} (h : decodeOpcode code = some t) (w : Word) :
    (t.instr w).length = t.length := by
  rw [← length_encode, encode_instr h, List.length_cons, length_immediate]
  cases t <;> rfl

/-! ### Decoding a list of bytes -/

theorem decode_op {code : Byte} {i : Instr} (h : decodeOpcode code = some (.op i)) (rest : List Byte) :
    decode (code :: rest) = .ok (i, rest) := by
  simp [decode, h]

theorem decode_d8 {code : Byte} {mk : Byte → Instr} (h : decodeOpcode code = some (.d8 mk)) (n : Byte)
    (rest : List Byte) : decode (code :: n :: rest) = .ok (mk n, rest) := by
  simp [decode, h]

theorem decode_d16 {code : Byte} {mk : Word → Instr} (h : decodeOpcode code = some (.d16 mk)) (n : Word)
    (rest : List Byte) : decode (code :: lsb n :: msb n :: rest) = .ok (mk n, rest) := by
  simp [decode, h]

/-- Bytes that decode are an opcode byte, the immediate it takes, and the rest. -/
theorem decode_eq_ok {bytes rest : List Byte} {i : Instr} (h : decode bytes = .ok (i, rest)) :
    ∃ code t w, decodeOpcode code = some t ∧ i = t.instr w ∧ bytes = code :: t.immediate w ++ rest := by
  match bytes with
  | [] => cases h
  | code :: tail =>
    cases ht : decodeOpcode code with
    | none => simp [decode, ht] at h
    | some t =>
      refine ⟨code, t, ?_⟩
      match t, tail with
      | .op j, tail =>
        simp only [decode, ht, Except.ok.injEq, Prod.mk.injEq] at h
        obtain ⟨rfl, rfl⟩ := h
        exact ⟨0#16, ht, rfl, rfl⟩
      | .d8 mk, n :: tail =>
        simp only [decode, ht, Except.ok.injEq, Prod.mk.injEq] at h
        obtain ⟨rfl, rfl⟩ := h
        exact ⟨fromBytes n 0#8, ht, by simp [Template.instr], by simp [Template.immediate, Template.length]⟩
      | .d16 mk, lo :: hi :: tail =>
        simp only [decode, ht, Except.ok.injEq, Prod.mk.injEq] at h
        obtain ⟨rfl, rfl⟩ := h
        exact ⟨fromBytes lo hi, ht, rfl, by simp [Template.immediate, Template.length]⟩
      | .d8 _, [] | .d16 _, [] | .d16 _, [_] => simp [decode, ht] at h

/-- Three bytes are enough for any opcode byte that selects an instruction. -/
theorem decode_three {code : Byte} {t : Template} (h : decodeOpcode code = some t) (lo hi : Byte) :
    decode [code, lo, hi] = .ok (t.instr (fromBytes lo hi), [lo, hi].drop (t.length - 1)) := by
  cases t <;> simp [decode, h, Template.instr, Template.length]

theorem decode_encode (i : Instr) (rest : List Byte) : decode (encode i ++ rest) = .ok (i, rest) := by
  cases i with
  | ldBC_Imm n | ldDE_Imm n | ldHL_Imm n | ldSP_Imm n => exact decode_d16 rfl n rest
  | ldB_Imm n | ldC_Imm n | ldD_Imm n | ldE_Imm n | ldH_Imm n | ldL_Imm n | ldIndHL_Imm n | ldA_Imm n =>
    exact decode_d8 rfl n rest
  | _ => exact decode_op rfl rest

end Sys2Proof

namespace Sys2Proof.Claims

theorem EncodedAs.of_encode {i : Instr} {bytes : List Byte} (h : encode i = bytes) : EncodedAs i bytes :=
  ⟨h, fun rest => h ▸ decode_encode i rest⟩

/-- Settles O1: the opcode byte of each instruction selects it, and a d16 is the word of its two bytes. -/
theorem decodeEncodeRoundTrip : Obligations.DecodeEncodeRoundTrip := decode_encode

/-- Settles O2: the bytes are the opcode byte and the immediate it takes, and so is the encoding of what it selects. -/
theorem encodingIsUnique : Obligations.EncodingIsUnique := by
  intro bytes rest i h
  obtain ⟨code, t, w, ht, rfl, rfl⟩ := decode_eq_ok h
  rw [encode_instr ht]

/-- Settles O3: the decoder computes each word's instruction. -/
theorem sampleWordsDecode : Obligations.SampleWordsDecode :=
  ⟨rfl, rfl, rfl, rfl, rfl, rfl, rfl, rfl, rfl, rfl, rfl, rfl, rfl, rfl, rfl, rfl, rfl, rfl, rfl⟩

end Sys2Proof.Claims
end

section
/-! What a write may do to memory and the configuration: an instruction, a step, construction and the driver store bytes one
at a time, each inside memory, and keep the configuration; so each of them keeps the invariant (00_scope.md R8, 20_memory.md
R51, R60). -/

namespace Sys2Proof.Machine

/-! ### One stored byte -/

/-- The configuration is kept, and memory but for one byte at the target, which is inside memory. -/
def WritesAt (target : Option Word) (s t : State) : Prop :=
  t.cfg = s.cfg ∧
    (t.mem = s.mem ∨ ∃ addr v, target = some addr ∧ s.inMemory addr ∧ t.mem = s.mem.write addr.toNat v)

theorem State.inv_iff {s : State} :
    s.inv = true ↔ s.cfg.wf = true ∧ s.mem.wf = true ∧ s.mem.within s.cfg.memSize = true := by
  simp [State.inv, and_assoc]

section
variable {target : Option Word} {s t u : State}

theorem WritesAt.of_mem_eq (hmem : t.mem = s.mem) (hcfg : t.cfg = s.cfg) : WritesAt target s t := ⟨hcfg, .inl hmem⟩

theorem WritesAt.storeByte {addr : Word} (v : Byte) (hin : s.inMemory addr) :
    WritesAt (some addr) s (s.storeByte addr v) := ⟨rfl, .inr ⟨addr, v, rfl, hin, rfl⟩⟩

/-- A change of registers after the write changes nothing about it. -/
theorem WritesAt.congr (h : WritesAt target s t) (hmem : u.mem = t.mem) (hcfg : u.cfg = t.cfg) : WritesAt target s u := by
  unfold WritesAt
  rwa [hmem, hcfg]

theorem WritesAt.inv (h : WritesAt target s t) (hs : s.inv = true) : t.inv = true := by
  obtain ⟨hcfg, hmem⟩ := h
  obtain ⟨hwf, hcanonical, hwithin⟩ := State.inv_iff.mp hs
  rw [State.inv_iff, hcfg]
  obtain hmem | ⟨addr, v, -, hin, hmem⟩ := hmem <;> rw [hmem]
  · exact ⟨hwf, hcanonical, hwithin⟩
  · exact ⟨hwf, Memory.wf_write hcanonical _ _, Memory.within_write hwithin hin _⟩

theorem WritesAt.byteAt (h : WritesAt target s t) {addr : Word} (hne : target ≠ some addr) :
    t.byteAt addr = s.byteAt addr := by
  unfold State.byteAt
  obtain ⟨-, hmem | ⟨written, v, rfl, -, hmem⟩⟩ := h <;> rw [hmem]
  exact Memory.read_write_ne _ _ fun heq => hne (by rw [BitVec.eq_of_toNat_eq heq])

/-! ### What an instruction and a step write -/

theorem ByteSource.set_writesAt {dst : ByteSource} {v : Byte} (h : dst.set v s = .ok t) : WritesAt (dst.address s) s t := by
  obtain ⟨r, rfl, rfl⟩ | ⟨p, post, rfl, hin, rfl⟩ := ByteSource.set_eq_ok.mp h
  · exact .of_mem_eq (setR8_mem ..) (setR8_cfg ..)
  · exact .storeByte v hin

theorem AluOp.result_writesAt (op : AluOp) (v : Byte) : WritesAt target s (op.result s v) := by
  cases op <;> exact .of_mem_eq rfl rfl

/-- An instruction writes no byte but the one at its data write (R59). -/
theorem exec_writesAt {i : Instr} (h : exec i s = .next t) : WritesAt (i.dataWrite s) s t := by
  rw [exec_eq_form] at h
  unfold Instr.dataWrite
  cases hform : i.form <;> rw [hform] at h
  case nop => cases h; exact .of_mem_eq rfl rfl
  case rot k => cases h; exact .of_mem_eq rfl rfl
  case ld dst src =>
    obtain ⟨-, u, hset, rfl⟩ := load8_eq_next.mp h
    exact (ByteSource.set_writesAt hset).congr (by simp) (by simp)
  case ldImm8 dst n => exact ByteSource.set_writesAt (loadImm8_eq_next.mp h)
  case ldImm16 r n | inc16 r | dec16 r => cases h; exact .of_mem_eq (setR16_mem ..) (setR16_cfg ..)
  case inc8 operand =>
    obtain ⟨-, u, hset, rfl⟩ := incOperand_eq_next.mp h
    exact (ByteSource.set_writesAt hset).congr (by simp [State.setIncDecFlags]) (by simp [State.setIncDecFlags])
  case dec8 operand =>
    obtain ⟨-, u, hset, rfl⟩ := decOperand_eq_next.mp h
    exact (ByteSource.set_writesAt hset).congr (by simp [State.setIncDecFlags]) (by simp [State.setIncDecFlags])
  case alu op src =>
    obtain ⟨-, rfl⟩ := AluOp.run_eq_next.mp h
    exact op.result_writesAt _
  case addHL r => cases h; exact .of_mem_eq (by simp) (by simp)

theorem step_writesAt (h : step s = .next t) : ∃ i, fetch s = .ok i ∧ WritesAt (i.dataWrite s) s t := by
  obtain ⟨i, u, hfetch, hexec, rfl⟩ := step_eq_next.mp h
  exact ⟨i, hfetch, (exec_writesAt hexec).congr rfl rfl⟩
end

/-! ### What the driver and construction write -/

theorem loadBytes_inv {bytes : List Byte} {s t : State} {addr : Word} (hs : s.inv = true)
    (h : loadBytes s addr bytes = .ok t) : t.inv = true := by
  induction bytes generalizing s addr with
  | nil => cases h; exact hs
  | cons v rest ih =>
    obtain ⟨hin, hrest⟩ := loadBytes_cons_eq_ok.mp h
    exact ih ((WritesAt.storeByte v hin).inv hs) hrest

/-- A driver's action other than a load sets registers, or one byte (R240). -/
theorem driverWrite_inv {action : DriverAction} {s t : State} (hs : s.inv = true) (h : driverWrite action s = .ok t) :
    t.inv = true ∧ t.cfg = s.cfg := by
  have hregisters : t.mem = s.mem → t.cfg = s.cfg → t.inv = true ∧ t.cfg = s.cfg := fun hmem hcfg =>
    ⟨(WritesAt.of_mem_eq (target := none) hmem hcfg).inv hs, hcfg⟩
  cases action with
  | setReg8 r v => cases h; exact hregisters (setR8_mem ..) (setR8_cfg ..)
  | setPair p v => cases h; exact hregisters (setPair_mem ..) (setPair_cfg ..)
  | setSp v => cases h; exact hregisters rfl rfl
  | setPc v => cases h; exact hregisters rfl rfl
  | setFlag name v => cases h; exact hregisters (setFlag_mem ..) (setFlag_cfg ..)
  | setBit r index v =>
    obtain ⟨w, -, rfl⟩ : ∃ w, bitSet (s.getR8 r) index v = .ok w ∧ s.setR8 r w = t := by
      cases hw : bitSet (s.getR8 r) index v with
      | ok w => exact ⟨w, rfl, by simpa [driverWrite, hw, Except.map] using h⟩
      | error fault => simp [driverWrite, hw, Except.map] at h
    exact hregisters (setR8_mem ..) (setR8_cfg ..)
  | setByte addr v =>
    obtain ⟨hin, rfl⟩ := memWrite_eq_ok.mp h
    exact ⟨(WritesAt.storeByte v hin).inv hs, rfl⟩
  | load addr bytes => exact ⟨loadBytes_inv hs h, (loadBytes_frame h).1⟩

end Sys2Proof.Machine

namespace Sys2Proof.Claims

open Machine

/-- The last byte given to construction is the one its address keeps. -/
theorem lastByteAt_concat (bytes : List Host.Cell) (cell : Host.Cell) (addr : Nat) :
    lastByteAt (bytes ++ [cell]) addr = if cell.1 = addr then cell.2 else lastByteAt bytes addr := by
  unfold lastByteAt
  rw [List.reverse_append, List.reverse_singleton, List.singleton_append]
  by_cases h : cell.1 = addr
  · rw [List.find?_cons_of_pos (by simpa using h), if_pos h]
  · rw [List.find?_cons_of_neg (by simpa using h), if_neg h]

theorem read_ofCells {memSize addr : Nat} (bytes : List Host.Cell) (haddr : addr < memSize) :
    (Memory.ofCells memSize bytes).read addr = lastByteAt bytes addr := by
  induction bytes using List.reverseRecOn with
  | nil => rfl
  | append_singleton bytes cell ih =>
    rw [Memory.ofCells_concat, lastByteAt_concat]
    by_cases hcell : cell.1 = addr
    · rw [if_pos (hcell ▸ haddr), if_pos hcell, hcell, Memory.read_write_self]
    · rw [if_neg hcell, ← ih]
      split
      · exact Memory.read_write_ne _ _ (Ne.symm hcell)
      · rfl

theorem toByte_and_low (f : Flags) : f.toByte &&& 0x0F#8 = 0#8 := by
  obtain ⟨z, n, hf, cy⟩ := f
  cases z <;> cases n <;> cases hf <;> cases cy <;> rfl

/-- Settles O11: a step keeps the configuration and writes at most one byte, inside memory. -/
theorem stepKeepsInvariant : Obligations.StepKeepsInvariant := by
  intro s t hs hstep
  obtain ⟨i, -, hwrites⟩ := step_writesAt hstep
  exact ⟨hwrites.inv hs, hwrites.1⟩

/-- Settles O14: a step writes memory at the data write of the instruction it fetched, or nowhere. -/
theorem stepWritesMemoryOnlyAtDataWrite : Obligations.StepWritesMemoryOnlyAtDataWrite := by
  intro s t hstep
  obtain ⟨i, hfetch, hwrites⟩ := step_writesAt hstep
  exact ⟨i, hfetch, fun addr hne => hwrites.byteAt hne⟩

/-- Settles O12: the memory after reset lists no byte. -/
theorem resetMeetsInvariant : Obligations.ResetMeetsInvariant := ⟨by decide, rfl⟩

/-- Settles O13: the registers are copied from INIT, and its bytes are written in their order, those inside memory. -/
theorem constructionTakesInit : Obligations.ConstructionTakesInit := by
  intro cfg init hcfg
  refine ⟨?_, rfl, rfl, rfl, rfl, rfl, rfl, rfl, rfl, rfl, rfl, rfl, toByte_and_low _, fun addr => read_ofCells _⟩
  exact State.inv_iff.mpr ⟨hcfg, Memory.wf_ofCells _ _, Memory.within_ofCells _ _⟩

/-- Settles O56: the driver writes registers, or bytes inside memory. -/
theorem driverKeepsInvariant : Obligations.DriverKeepsInvariant := fun _ _ _ => driverWrite_inv

end Sys2Proof.Claims
end

section
/-! The outcome of a step (60_exceptions.md R220 to R227): each access faults exactly outside memory, the accesses of a step
come one after the other, and what is computed between and after them never fails. So a step reports the first access
that fails, or the undefined code before its immediate, and else answers a next state. -/

namespace Sys2Proof.Machine

/-! ### Computations that fail by a given fault -/

/-- A computation fails by exactly this fault, or succeeds where there is none. -/
def Answers {α : Type} (fault : Option Fault) (r : Except Fault α) : Prop :=
  (∀ f, fault = some f → r = .error f) ∧ (fault = none → ∃ v, r = .ok v)

/-- An instruction or a step reports exactly this fault, or answers a next state where there is none. -/
def Reports (fault : Option Fault) (o : Host.Outcome State Fault Refusal) : Prop :=
  (∀ f, fault = some f → o = .fault f) ∧ (fault = none → ∃ t, o = .next t)

section
variable {α β : Type} {x : Except Fault α}

theorem Answers.ok (v : α) : Answers none (.ok v) := ⟨nofun, fun _ => ⟨v, rfl⟩⟩

theorem Answers.error (f : Fault) : Answers (α := α) (some f) (.error f) :=
  ⟨fun _ h => congrArg _ (Option.some.inj h), nofun⟩

/-- The first of two computations in a row that fails gives the fault. -/
theorem Answers.bind {first second : Option Fault} {k : α → Except Fault β} (hx : Answers first x)
    (hk : ∀ v, Answers second (k v)) : Answers (first.or second) (x >>= k) := by
  cases first with
  | some f => rw [hx.1 f rfl]; exact .error f
  | none =>
    obtain ⟨v, rfl⟩ := hx.2 rfl
    exact hk v

theorem Answers.bind_ok {fault : Option Fault} (hx : Answers fault x) (k : α → β) :
    Answers fault (x >>= fun v => .ok (k v)) := by
  simpa using hx.bind fun v => .ok (k v)

theorem Answers.map {fault : Option Fault} (hx : Answers fault x) (k : α → β) : Answers fault (x.map k) := by
  cases x <;> exact hx.bind_ok k

theorem Answers.eq_of_error {fault : Option Fault} {f : Fault} (hx : Answers fault x) (h : x = .error f) :
    fault = some f := by
  cases fault with
  | some g => cases (hx.1 g rfl).symm.trans h; rfl
  | none =>
    obtain ⟨v, hv⟩ := hx.2 rfl
    cases hv.symm.trans h

theorem Answers.commit {fault : Option Fault} {r : Except Fault State} (h : Answers fault r) :
    Reports fault (commit r) :=
  ⟨fun f hf => commit_eq_fault.mpr (h.1 f hf), fun hf => (h.2 hf).imp fun _ => commit_eq_next.mpr⟩
end

theorem Reports.next (t : State) : Reports none (.next t) := ⟨nofun, fun _ => ⟨t, rfl⟩⟩

theorem Reports.eq_of_fault {fault : Option Fault} {o : Host.Outcome State Fault Refusal} {f : Fault}
    (h : Reports fault o) (ho : o = .fault f) : fault = some f := by
  cases fault with
  | some g => cases (h.1 g rfl).symm.trans ho; rfl
  | none =>
    obtain ⟨t, ht⟩ := h.2 rfl
    cases ht.symm.trans ho

theorem Reports.ne_refused {fault : Option Fault} {o : Host.Outcome State Fault Refusal} (h : Reports fault o)
    (why : Refusal) : o ≠ .refused why := by
  rintro rfl
  cases fault with
  | some f => cases h.1 f rfl
  | none => obtain ⟨t, ht⟩ := h.2 rfl; cases ht

/-! ### The accesses of an instruction -/

/-- The fault of accesses made one after the other: at the first address that lies outside memory. -/
def accessFault (s : State) (addrs : List Word) (kind : AccessKind) : Option Fault :=
  (firstOutside s addrs).map fun addr => .memFault addr kind

section
variable {s : State}

@[simp] theorem accessFault_nil (kind : AccessKind) : accessFault s [] kind = none := rfl

theorem accessFault_singleton (addr : Word) (kind : AccessKind) :
    accessFault s [addr] kind = if s.inMemory addr then none else some (.memFault addr kind) := by
  unfold accessFault firstOutside
  by_cases h : s.inMemory addr <;> simp [h]

theorem accessFault_cons (addr : Word) (addrs : List Word) (kind : AccessKind) :
    accessFault s (addr :: addrs) kind = (accessFault s [addr] kind).or (accessFault s addrs kind) := by
  unfold accessFault firstOutside
  by_cases h : s.inMemory addr <;> simp [h]

theorem accessFault_eq_some {addrs : List Word} {kind : AccessKind} {f : Fault} (h : accessFault s addrs kind = some f) :
    ∃ addr ∈ addrs, ¬ s.inMemory addr ∧ f = .memFault addr kind := by
  obtain ⟨addr, hfirst, rfl⟩ := Option.map_eq_some_iff.mp h
  exact ⟨addr, List.mem_of_find?_eq_some hfirst, by simpa using List.find?_some hfirst, rfl⟩

theorem memRead_answers (addr : Word) (kind : AccessKind) : Answers (accessFault s [addr] kind) (memRead s addr kind) := by
  rw [accessFault_singleton]
  unfold memRead
  split
  · exact .ok _
  · exact .error _

theorem memWrite_answers (addr : Word) (v : Byte) : Answers (accessFault s [addr] .write) (memWrite s addr v) := by
  rw [accessFault_singleton]
  unfold memWrite
  split
  · exact .ok _
  · exact .error _

theorem ByteSource.get_answers (src : ByteSource) : Answers (accessFault s (src.address s).toList .read) (src.get s) := by
  cases src with
  | reg r => exact .ok _
  | ind p post => exact memRead_answers _ _

theorem ByteSource.set_answers (dst : ByteSource) (v : Byte) :
    Answers (accessFault s (dst.address s).toList .write) (dst.set v s) := by
  cases dst with
  | reg r => exact .ok _
  | ind p post => exact memWrite_answers _ _

/-- The fault of an instruction that has been fetched: at its data read, or else at its data write (R59, R66). -/
def dataFault (i : Instr) (s : State) : Option Fault :=
  (accessFault s (i.dataRead s).toList .read).or (accessFault s (i.dataWrite s).toList .write)

theorem AluOp.run_eq_withOperand (op : AluOp) (src : ByteSource) (s : State) :
    op.run src s = withOperand src s (op.result s) := by
  cases op <;> rfl

theorem exec_reports (i : Instr) (s : State) : Reports (dataFault i s) (exec i s) := by
  rw [exec_eq_form]
  unfold dataFault Instr.dataRead Instr.dataWrite
  cases i.form with
  | nop | rot | ldImm16 | inc16 | dec16 | addHL => exact .next _
  | ld dst src => exact (src.get_answers.bind fun v => (dst.set_answers v).bind_ok _).commit
  | ldImm8 dst n => exact (dst.set_answers n).commit
  | inc8 operand | dec8 operand => exact (operand.get_answers.bind fun v => (operand.set_answers _).bind_ok _).commit
  | alu op src =>
    have hread : Reports (accessFault s (src.address s).toList .read) (op.run src s) :=
      op.run_eq_withOperand src s ▸ (src.get_answers.bind_ok (op.result s)).commit
    simpa [Form.run] using hread

/-! ### The fetch -/

/-- The two bytes after the opcode byte, as a word (R87). -/
def immediateWord (s : State) : Word := fromBytes (s.byteAt (s.pc + 1#16)) (s.byteAt (s.pc + 2#16))

theorem memRead_of_inMemory {addr : Word} (kind : AccessKind) (h : s.inMemory addr) :
    memRead s addr kind = .ok (s.byteAt addr) := memRead_eq_ok.mpr ⟨h, rfl⟩

theorem fetchOperand_answers (t : Template) :
    Answers (accessFault s (immediateAddresses s.pc t.length) .imm) (fetchOperand t s) := by
  cases t with
  | op i => exact .ok i
  | d8 mk => exact (memRead_answers _ _).map mk
  | d16 mk =>
    have himm : Answers (accessFault s [s.pc + 1#16, s.pc + 2#16] .imm) (imm16 s) :=
      accessFault_cons (s.pc + 1#16) _ _ ▸ (memRead_answers _ _).bind fun lo => (memRead_answers _ _).bind_ok _
    exact himm.map mk

theorem fetchOperand_of_inMemory {t : Template} (h : ∀ addr ∈ immediateAddresses s.pc t.length, s.inMemory addr) :
    fetchOperand t s = .ok (t.instr (immediateWord s)) := by
  cases t with
  | op i => rfl
  | d8 mk =>
    have h1 : s.inMemory (s.pc + 1#16) := h _ (by simp [immediateAddresses, Template.length])
    simp [fetchOperand, imm8, memRead_of_inMemory _ h1, Except.map, Template.instr, immediateWord]
  | d16 mk =>
    have h1 : s.inMemory (s.pc + 1#16) := h _ (by simp [immediateAddresses, Template.length])
    have h2 : s.inMemory (s.pc + 2#16) := h _ (by simp [immediateAddresses, Template.length])
    simp [fetchOperand, imm16, memRead_of_inMemory _ h1, memRead_of_inMemory _ h2, bind, Except.bind, Except.map,
      Template.instr, immediateWord]

/-- A fetch whose accesses lie inside memory gives what the opcode byte selects, with the bytes after it. -/
theorem fetch_of_inMemory {t : Template} (hpc : s.inMemory s.pc) (ht : decodeOpcode (s.byteAt s.pc) = some t)
    (himm : ∀ addr ∈ immediateAddresses s.pc t.length, s.inMemory addr) : fetch s = .ok (t.instr (immediateWord s)) := by
  simp [fetch, memRead_of_inMemory _ hpc, bind, Except.bind, ht, fetchOperand_of_inMemory himm]

theorem inMemory_of_firstOutside_eq_none {addrs : List Word} (h : firstOutside s addrs = none) :
    ∀ addr ∈ addrs, s.inMemory addr := by
  simpa [firstOutside, List.find?_eq_none] using h

/-! ### The step -/

theorem step_of_fetch {i : Instr} (h : fetch s = .ok i) :
    step s = Claims.mapNext (fun t => { t with pc := s.pc + BitVec.ofNat 16 i.length }) (exec i s) := by
  simp only [step, stepWithCycles, h, runFetched]
  cases exec i s <;> rfl

theorem step_reports_of_fetch {i : Instr} {fault : Option Fault} (h : fetch s = .ok i) (hexec : Reports fault (exec i s)) :
    Reports fault (step s) := by
  rw [step_of_fetch h]
  refine ⟨fun f hf => ?_, fun hf => ?_⟩
  · rw [hexec.1 f hf]
    rfl
  · obtain ⟨t, ht⟩ := hexec.2 hf
    exact ⟨_, by rw [ht]; rfl⟩

theorem step_reports_of_fetch_error {f : Fault} (h : fetch s = .error f) : Reports (some f) (step s) :=
  ⟨fun _ hf => Option.some.inj hf ▸ step_eq_fault.mpr (.inl h), nofun⟩

/-- With the fetch complete, the fault the spec expects is that of the instruction's data accesses. -/
theorem expectedFault_eq_dataFault {t : Template} (hpc : s.inMemory s.pc) (ht : decodeOpcode (s.byteAt s.pc) = some t)
    (himm : firstOutside s (immediateAddresses s.pc t.length) = none) :
    expectedFault s = dataFault (t.instr (immediateWord s)) s := by
  unfold expectedFault dataFault accessFault
  rw [if_neg (not_not_intro hpc), ht]
  simp only [himm, decode_three ht]
  unfold immediateWord
  cases firstOutside s ((t.instr (fromBytes (s.byteAt (s.pc + 1#16)) (s.byteAt (s.pc + 2#16)))).dataRead s).toList <;> rfl

theorem step_reports_expectedFault (s : State) : Reports (expectedFault s) (step s) := by
  by_cases hpc : s.inMemory s.pc
  · cases ht : decodeOpcode (s.byteAt s.pc) with
    | none =>
      have hexpected : expectedFault s = some (.undefinedOpcode (s.byteAt s.pc) s.pc) := by simp [expectedFault, hpc, ht]
      rw [hexpected]
      exact step_reports_of_fetch_error (fetch_eq_error.mpr (.inr (.inl ⟨hpc, ht, rfl⟩)))
    | some t =>
      have hanswers := fetchOperand_answers (s := s) t
      cases himm : firstOutside s (immediateAddresses s.pc t.length) with
      | some addr =>
        have hexpected : expectedFault s = some (.memFault addr .imm) := by simp [expectedFault, hpc, ht, himm]
        rw [hexpected]
        have hfault : fetchOperand t s = .error (.memFault addr .imm) := hanswers.1 _ (by simp [accessFault, himm])
        exact step_reports_of_fetch_error (fetch_eq_error.mpr (.inr (.inr ⟨hpc, t, ht, hfault⟩)))
      | none =>
        rw [expectedFault_eq_dataFault hpc ht himm]
        have hfetch := fetch_of_inMemory hpc ht (inMemory_of_firstOutside_eq_none himm)
        exact step_reports_of_fetch hfetch (exec_reports _ s)
  · have hexpected : expectedFault s = some (.memFault s.pc .fetch) := by simp [expectedFault, hpc]
    rw [hexpected]
    exact step_reports_of_fetch_error (fetch_eq_error.mpr (.inl ⟨hpc, rfl⟩))

/-- Every fault of a step is an access outside memory or the undefined code at PC. -/
theorem step_fault {f : Fault} (h : step s = .fault f) :
    AccessOutside s f ∨ f = .undefinedOpcode (s.byteAt s.pc) s.pc := by
  obtain hfetch | ⟨i, -, hexec⟩ := step_eq_fault.mp h
  · obtain ⟨hpc, rfl⟩ | ⟨-, -, rfl⟩ | ⟨-, t, -, hoperand⟩ := fetch_eq_error.mp hfetch
    · exact .inl ⟨_, _, hpc, rfl⟩
    · exact .inr rfl
    · exact .inl (fetchOperand_faultsOutside t f hoperand)
  · exact .inl (exec_fault hexec)
end

end Sys2Proof.Machine

namespace Sys2Proof.Claims

open Machine

/-- Settles O5: the accesses of a step, made one after the other, fail as `expectedFault` lists them. -/
theorem stepOutcomeIsTheFirstFault : Obligations.StepOutcomeIsTheFirstFault := step_reports_expectedFault

/-- Settles O8: a fault of the fetch names PC or an immediate byte, a fault of the instruction its data read or write. -/
theorem memFaultNamesAnAccessOutsideMemory : Obligations.MemFaultNamesAnAccessOutsideMemory := by
  intro s addr kind hstep
  obtain hfetch | ⟨i, hfetch, hexec⟩ := step_eq_fault.mp hstep
  · obtain ⟨hpc, hfault⟩ | ⟨-, -, hfault⟩ | ⟨-, t, -, hoperand⟩ := fetch_eq_error.mp hfetch
    · cases hfault
      exact ⟨hpc, rfl⟩
    · cases hfault
    · obtain ⟨addr', hmem, hout, hfault⟩ := accessFault_eq_some ((fetchOperand_answers t).eq_of_error hoperand)
      cases hfault
      have himm := List.mem_of_mem_take hmem
      exact ⟨hout, by simpa using himm⟩
  · obtain hread | ⟨-, hwrite⟩ := Option.or_eq_some_iff.mp ((exec_reports i s).eq_of_fault hexec)
    · obtain ⟨addr', hmem, hout, hfault⟩ := accessFault_eq_some hread
      cases hfault
      exact ⟨hout, i, hfetch, Option.mem_toList.mp hmem⟩
    · obtain ⟨addr', hmem, hout, hfault⟩ := accessFault_eq_some hwrite
      cases hfault
      exact ⟨hout, i, hfetch, Option.mem_toList.mp hmem⟩

/-- Settles O9: every 16-bit address is one of 65536, so no access lies outside memory. -/
theorem fullMemoryHasNoMemFault : Obligations.FullMemoryHasNoMemFault := by
  intro s hsize
  have hin : ∀ addr : Word, s.inMemory addr := by
    intro addr
    rw [State.inMemory, hsize]
    exact addr.isLt
  have hundefined : ∀ fault, step s = .fault fault → fault = .undefinedOpcode (s.byteAt s.pc) s.pc := by
    intro fault hstep
    obtain ⟨addr, kind, hout, -⟩ | hfault := step_fault hstep
    · exact absurd (hin addr) hout
    · exact hfault
  exact ⟨fun _ _ hstep => absurd (hundefined _ hstep) nofun, hundefined⟩

/-- Settles O10: a step reports the expected fault or answers a next state, and no fault of a step is a broken contract. -/
theorem stepNeverRefusesOrBreaksAContract : Obligations.StepNeverRefusesOrBreaksAContract := by
  refine fun s => ⟨(step_reports_expectedFault s).ne_refused, fun what hstep => ?_⟩
  obtain ⟨addr, kind, -, hfault⟩ | hfault := step_fault hstep <;> cases hfault

/-- Settles O4: the bytes at PC that decode are what the fetch reads, and the step is exec of it and the advance of PC. -/
theorem stepRunsDecodedInstruction : Obligations.StepRunsDecodedInstruction := by
  refine ⟨fun i => (length_encode i).symm, fun s i rest hdecode hin => step_of_fetch ?_⟩
  obtain ⟨code, t, w, ht, -, hbytes⟩ := decode_eq_ok hdecode
  obtain rfl : s.byteAt s.pc = code := (List.cons.inj hbytes).1
  rw [decode_three ht] at hdecode
  obtain rfl : t.instr (immediateWord s) = i := congrArg Prod.fst (Except.ok.inj hdecode)
  rw [length_instr ht] at hin
  have hpc : s.inMemory s.pc := by simpa using hin 0 (by cases t <;> simp [Template.length])
  refine fetch_of_inMemory hpc ht ?_
  cases t with
  | op i => simp [immediateAddresses, Template.length]
  | d8 mk => simpa [immediateAddresses, Template.length] using hin 1 (by simp [Template.length])
  | d16 mk =>
    have h1 := hin 1 (by simp [Template.length])
    simpa [immediateAddresses, Template.length] using And.intro h1 (hin 2 (by simp [Template.length]))

end Sys2Proof.Claims
end

section
/-! What the next steps fetch: a stored byte (20_memory.md R67), a region of NOP (44_alu16_rotate_nop.md R205) and a placed
program (60_exceptions.md R240); and the cycle count of a step (70_reset_and_hazards.md R260). -/

namespace Sys2Proof.Machine

/-! ### One step with its cycles -/

theorem stepWithCycles_eq_next {s t : State} {n : Nat} :
    stepWithCycles s = .next (t, n) ↔
      ∃ i u, fetch s = .ok i ∧ exec i s = .next u ∧ t = advancePc s.pc i u ∧ n = i.cycles := by
  unfold stepWithCycles
  cases fetch s <;> simp [runFetched_eq_next]

theorem accessCycles_eq_zero_or_four (src : ByteSource) : src.accessCycles = 0 ∨ src.accessCycles = 4 := by
  cases src <;> simp [ByteSource.accessCycles]

theorem modifyCycles_eq_zero_or_eight (src : ByteSource) : src.modifyCycles = 0 ∨ src.modifyCycles = 8 := by
  cases src <;> simp [ByteSource.modifyCycles]

theorem cycles_eq_four_or_eight_or_twelve (i : Instr) : i.cycles = 4 ∨ i.cycles = 8 ∨ i.cycles = 12 := by
  unfold Instr.cycles
  cases i.form with
  | nop | rot | ldImm16 | inc16 | dec16 | addHL => simp
  | ld dst src =>
    have hdst := accessCycles_eq_zero_or_four dst
    have hsrc := accessCycles_eq_zero_or_four src
    dsimp only
    omega
  | ldImm8 operand n | alu op operand =>
    have h := accessCycles_eq_zero_or_four operand
    dsimp only
    omega
  | inc8 operand | dec8 operand =>
    have h := modifyCycles_eq_zero_or_eight operand
    dsimp only
    omega

/-! ### Bytes stored one after the other -/

/-- The memory after storing bytes at consecutive addresses, wrapping modulo 2^16 (R58). -/
def Memory.writeBytes (m : Memory) (addr : Word) : List Byte → Memory
  | [] => m
  | v :: rest => (m.write addr.toNat v).writeBytes (addr + 1#16) rest

theorem placeBytes_mem (s : State) (addr : Word) (bytes : List Byte) :
    (s.placeBytes addr bytes).mem = s.mem.writeBytes addr bytes := by
  induction bytes generalizing s addr with
  | nil => rfl
  | cons v rest ih => exact ih ..

theorem loadBytes_mem {bytes : List Byte} {s t : State} {addr : Word} (h : loadBytes s addr bytes = .ok t) :
    t.mem = s.mem.writeBytes addr bytes := by
  induction bytes generalizing s addr with
  | nil => cases h; rfl
  | cons v rest ih => exact ih (loadBytes_cons_eq_ok.mp h).2

end Sys2Proof.Machine

namespace Sys2Proof.Claims

open Machine

@[simp] theorem loadAddress_zero (addr : Word) : loadAddress addr 0 = addr := BitVec.add_zero addr

theorem loadAddress_succ (addr : Word) (k : Nat) : loadAddress addr (k + 1) = loadAddress (addr + 1#16) k := by
  unfold loadAddress
  rw [Nat.add_comm, BitVec.ofNat_add, BitVec.add_assoc]

theorem loadAddress_injOn {addr : Word} {j k : Nat} (hj : j < 65536) (hk : k < 65536)
    (h : loadAddress addr j = loadAddress addr k) : j = k := by
  have hnat := congrArg BitVec.toNat (add_left_cancel (a := addr) h)
  simpa [Nat.mod_eq_of_lt hj, Nat.mod_eq_of_lt hk] using hnat

/-- A byte that none of the stored ones covers is as before. -/
theorem read_writeBytes_of_ne {bytes : List Byte} {m : Memory} {addr a : Word}
    (h : ∀ k < bytes.length, a ≠ loadAddress addr k) : (m.writeBytes addr bytes).read a.toNat = m.read a.toNat := by
  induction bytes generalizing m addr with
  | nil => rfl
  | cons v rest ih =>
    have h0 : a ≠ addr := by simpa using h 0 (by simp)
    have hrest : ∀ k < rest.length, a ≠ loadAddress (addr + 1#16) k := fun k hk =>
      loadAddress_succ addr k ▸ h (k + 1) (by simpa using hk)
    exact (ih hrest).trans (Memory.read_write_ne m v fun heq => h0 (BitVec.eq_of_toNat_eq heq))

/-- The last of the bytes stored at an address is the one it keeps. -/
theorem read_writeBytes {bytes : List Byte} {m : Memory} {addr : Word} {k : Nat} (hk : k < bytes.length)
    (hlast : ∀ later, k < later → later < bytes.length → loadAddress addr later ≠ loadAddress addr k) :
    (m.writeBytes addr bytes).read (loadAddress addr k).toNat = bytes[k] := by
  induction bytes generalizing m addr k with
  | nil => cases hk
  | cons v rest ih =>
    cases k with
    | zero =>
      have hrest : ∀ j < rest.length, loadAddress addr 0 ≠ loadAddress (addr + 1#16) j := fun j hj =>
        loadAddress_succ addr j ▸ (hlast (j + 1) (by omega) (by simpa using hj)).symm
      rw [Memory.writeBytes, read_writeBytes_of_ne hrest, loadAddress_zero]
      exact Memory.read_write_self ..
    | succ k =>
      rw [loadAddress_succ]
      refine ih (Nat.lt_of_succ_lt_succ hk) fun later h1 h2 => ?_
      rw [← loadAddress_succ, ← loadAddress_succ]
      exact hlast (later + 1) (by omega) (by simpa using h2)

/-! ### A placed program -/

/-- Placing bytes takes no address out of memory and makes each of theirs one of it (notes/assumptions/5.md). -/
theorem inMemory_placeBytes {bytes : List Byte} {s : State} {addr a : Word}
    (h : s.inMemory a ∨ ∃ k < bytes.length, a = loadAddress addr k) : (s.placeBytes addr bytes).inMemory a := by
  induction bytes generalizing s addr with
  | nil => exact h.resolve_right (by simp)
  | cons v rest ih =>
    refine ih ?_
    rw [inMemory_placeByte]
    obtain h | ⟨k, hk, rfl⟩ := h
    · exact .inl (.inl h)
    · cases k with
      | zero => exact .inl (.inr (by simp))
      | succ k => exact .inr ⟨k, Nat.lt_of_succ_lt_succ hk, loadAddress_succ addr k⟩

theorem byteAt_placeBytes {bytes : List Byte} (s : State) (addr : Word) {k : Nat} (hk : k < bytes.length)
    (hlen : bytes.length ≤ 65536) : (s.placeBytes addr bytes).byteAt (loadAddress addr k) = bytes[k] := by
  unfold State.byteAt
  rw [placeBytes_mem]
  refine read_writeBytes hk fun later h1 h2 heq => ?_
  exact Nat.ne_of_gt h1 (loadAddress_injOn (by omega) (by omega) heq)

/-- What memory holds at PC and decodes is what the fetch answers. -/
theorem fetch_of_memRead {bytes rest : List Byte} {i : Instr} {s : State} (hdecode : decode bytes = .ok (i, rest))
    (hread : ∀ k (hk : k < bytes.length) kind, memRead s (loadAddress s.pc k) kind = .ok bytes[k]) : fetch s = .ok i := by
  obtain ⟨code, t, w, ht, rfl, rfl⟩ := decode_eq_ok hdecode
  have hcode : memRead s s.pc .fetch = .ok code := by simpa using hread 0 (by simp) .fetch
  have hfetch : fetch s = fetchOperand t s := by simp [fetch, hcode, ht, bind, Except.bind]
  rw [hfetch]
  cases t with
  | op i => rfl
  | d8 mk =>
    have h1 : memRead s (s.pc + 1#16) .imm = .ok (lsb w) := hread 1 (by simp [Template.immediate, Template.length]) .imm
    simp [fetchOperand, imm8, h1, Except.map, Template.instr]
  | d16 mk =>
    have h1 : memRead s (s.pc + 1#16) .imm = .ok (lsb w) := hread 1 (by simp [Template.immediate, Template.length]) .imm
    have h2 : memRead s (s.pc + 2#16) .imm = .ok (msb w) := hread 2 (by simp [Template.immediate, Template.length]) .imm
    simp [fetchOperand, imm16, h1, h2, bind, Except.bind, Except.map, Template.instr]

/-- Bytes that decode, placed at PC, are what the next fetch reads. -/
theorem fetch_placeBytes {bytes rest : List Byte} {i : Instr} (s : State) (hdecode : decode bytes = .ok (i, rest))
    (hlen : bytes.length ≤ 65536) : fetch (s.placeBytes s.pc bytes) = .ok i := by
  refine fetch_of_memRead hdecode fun k hk kind => ?_
  rw [(placeBytes_frame ..).2.1]
  exact memRead_eq_ok.mpr ⟨inMemory_placeBytes (.inr ⟨k, hk, rfl⟩), (byteAt_placeBytes s s.pc hk hlen).symm⟩

/-- The bytes after an instruction's own do not matter to the decoder. -/
theorem decode_take {bytes rest : List Byte} {i : Instr} {n : Nat} (hdecode : decode bytes = .ok (i, rest))
    (hn : i.length ≤ n) : ∃ rest', decode (bytes.take n) = .ok (i, rest') := by
  rw [encodingIsUnique bytes rest i hdecode, List.take_append, List.take_of_length_le (length_encode i ▸ hn)]
  exact ⟨_, decode_encode i _⟩

theorem decodeTableWord_eq_some {nbits w : Nat} {i : Instr} (h : decodeTableWord nbits w = some i) :
    ∃ rest, decode (tableBytes nbits w) = .ok (i, rest) := by
  unfold decodeTableWord at h
  cases hdecode : decode (tableBytes nbits w) with
  | error e => simp [hdecode] at h
  | ok r =>
    obtain rfl : r.1 = i := by simpa [hdecode] using h
    exact ⟨r.2, rfl⟩

theorem length_le_tableWordLength {nbits w : Nat} {i : Instr} (h : decodeTableWord nbits w = some i) :
    i.length ≤ tableWordLength nbits w := by
  simp [tableWordLength, h]

/-! ### A stored byte and a region of NOP -/

theorem exec_ldImm8_ind {i : Instr} {p : Pair} {post : Post} {n : Byte} {s : State}
    (hform : i.form = .ldImm8 (.ind p post) n) (hin : s.inMemory (s.getPair p)) :
    exec i s = .next (s.storeByte (s.getPair p) n) := by
  rw [exec_eq_form, hform]
  exact loadImm8_eq_next.mpr (memWrite_eq_ok.mpr ⟨hin, rfl⟩)

theorem fetch_nop {s : State} (hin : s.inMemory s.pc) (hbyte : s.byteAt s.pc = 0x00#8) : fetch s = .ok .nop :=
  fetch_of_inMemory (t := .op .nop) hin (by rw [hbyte]; rfl) nofun

theorem core_run_succ {s t : State} (h : step s = .next t) (k : Nat) :
    Sys2Proof.core.run (k + 1) s = Sys2Proof.core.run k t := by
  have hstep : Sys2Proof.core.step s = .next t := h
  simp [Host.Core.run, hstep]

/-! ### The obligations -/

/-- Settles O21: the full step and the step run one instruction, whose cycles are the count. -/
theorem stepReportsItsCycles : Obligations.StepReportsItsCycles := by
  refine fun s => ⟨fun t n => ?_, fun fault => dropCycles_eq_fault.symm⟩
  rw [stepWithCycles_eq_next, step_eq_next]
  constructor
  · rintro ⟨i, u, hfetch, hexec, rfl, rfl⟩
    exact ⟨⟨i, u, hfetch, hexec, rfl⟩, i, hfetch, rfl, cycles_eq_four_or_eight_or_twelve i⟩
  · rintro ⟨⟨i, u, hfetch, hexec, rfl⟩, j, hfetch', rfl, -⟩
    obtain rfl : i = j := Except.ok.inj (hfetch.symm.trans hfetch')
    exact ⟨i, u, hfetch, hexec, rfl, rfl⟩

/-- Settles O22: the word's bytes that are placed are those of its instruction, or more. -/
theorem placedWordIsFetched : Obligations.PlacedWordIsFetched := by
  intro s nbits w i hword
  obtain ⟨rest, hdecode⟩ := decodeTableWord_eq_some hword
  obtain ⟨rest', htake⟩ := decode_take hdecode (length_le_tableWordLength hword)
  obtain ⟨hsp, hpc, hcells⟩ := placeBytes_frame ((tableBytes nbits w).take (tableWordLength nbits w)) s s.pc
  have hlen : (tableBytes nbits w).length = 3 := rfl
  exact ⟨fetch_placeBytes s htake (by rw [List.length_take, hlen]; omega), hpc, hsp, hcells⟩

/-- Settles O19: the store leaves n at the address that the advance of PC then selects. -/
theorem storeIsSeenByTheNextFetch : Obligations.StoreIsSeenByTheNextFetch := by
  intro s n hfetch hhl hin
  have hexec := exec_ldImm8_ind (i := .ldIndHL_Imm n) rfl (hhl ▸ hin)
  have hbyte : (s.storeByte (s.getPair .hl) n).byteAt (s.pc + 2#16) = n := hhl ▸ byteAt_storeByte_self ..
  refine ⟨_, step_eq_next.mpr ⟨_, _, hfetch, hexec, rfl⟩, rfl, hbyte, fun i hcode => ?_, fun hcode => ?_⟩
  · exact fetch_of_inMemory (t := .op i) hin (hbyte.symm ▸ hcode) nofun
  · exact step_eq_undefinedOpcode.mpr ⟨hin, hbyte.symm ▸ hcode, hbyte.symm, rfl⟩

/-- Settles O20: each step runs a NOP and moves PC by one, and a NOP leaves every byte 0x00. -/
theorem nopMemoryRunsWithoutEnd : Obligations.NopMemoryRunsWithoutEnd := by
  intro k
  induction k with
  | zero => intro s _ _; simp [Host.Core.run]
  | succ k ih =>
    intro s hsize hbytes
    have hin : s.inMemory s.pc := by
      rw [State.inMemory, hsize]
      exact s.pc.isLt
    have hstep : step s = .next { s with pc := s.pc + 1#16 } := by
      rw [step_of_fetch (fetch_nop hin (hbytes _)), exec_nop]
      rfl
    refine (core_run_succ hstep k).trans ((ih { s with pc := s.pc + 1#16 } hsize hbytes).trans ?_)
    rw [Nat.add_comm k 1, BitVec.ofNat_add, BitVec.add_assoc]

end Sys2Proof.Claims
end

section
/-! Register views (10_state.md R20 to R25) and the driver's writes (60_exceptions.md R240): what each cell reads after a
write of it, of a pair, or of one bit, F without its low bits; and the two formulas of the half-borrow (90_conflicts.md
C1). -/

namespace Sys2Proof.Machine

/-! ### Bytes as numbers -/

theorem toNat_fromBytes (lo hi : Byte) : (fromBytes lo hi).toNat = hi.toNat * 256 + lo.toNat := by
  unfold fromBytes
  rw [BitVec.toNat_append, ← Nat.shiftLeft_add_eq_or_of_lt lo.isLt, Nat.shiftLeft_eq]

theorem toNat_lsb (v : Word) : (lsb v).toNat = v.toNat % 256 := by simp [lsb]

theorem toNat_msb (v : Word) : (msb v).toNat = v.toNat / 256 := by
  unfold msb
  rw [BitVec.extractLsb'_toNat, Nat.shiftRight_eq_div_pow]
  omega

theorem toNat_and_high (v : Byte) : (v &&& 0xF0#8).toNat = v.toNat / 16 * 16 := by
  revert v
  decide

theorem toNat_toByte (f : Flags) :
    f.toByte.toNat = 128 * f.z.toNat + 64 * f.n.toNat + 32 * f.hf.toNat + 16 * f.cy.toNat := by
  obtain ⟨z, n, hf, cy⟩ := f
  cases z <;> cases n <;> cases hf <;> cases cy <;> rfl

theorem getLsbD_toByte_of_lt (f : Flags) {k : Nat} (hk : k < 4) : f.toByte.getLsbD k = false := by
  rw [Flags.toByte]
  exact (BitVec.getLsbD_append ..).trans (by simp [hk])

/-! ### One cell, and a pair of two -/

section
variable (s : State)

theorem getR8_setR8 (r : Reg8) (v : Byte) : (s.setR8 r v).getR8 r = if r = .f then v &&& 0xF0#8 else v := by
  split
  · next h => exact h ▸ getR8_setR8_f s v
  · next h => exact getR8_setR8_self s r v h

theorem Pair.high_ne_low (p : Pair) (order : PairOrder) : p.high order ≠ p.low order := by
  cases p <;> cases order <;> decide

theorem toNat_getPair (p : Pair) :
    (s.getPair p).toNat = (s.getR8 (p.high s.cfg.pairOrder)).toNat * 256 + (s.getR8 (p.low s.cfg.pairOrder)).toNat :=
  toNat_fromBytes ..

theorem getR8_setPair_high (p : Pair) (v : Word) :
    (s.setPair p v).getR8 (p.high s.cfg.pairOrder) =
      if p.high s.cfg.pairOrder = .f then msb v &&& 0xF0#8 else msb v := by
  rw [State.setPair, getR8_setR8_ne _ _ _ _ (p.high_ne_low _), getR8_setR8]

theorem getR8_setPair_low (p : Pair) (v : Word) :
    (s.setPair p v).getR8 (p.low s.cfg.pairOrder) =
      if p.low s.cfg.pairOrder = .f then lsb v &&& 0xF0#8 else lsb v := getR8_setR8 ..

theorem getR8_setPair_ne (p : Pair) (v : Word) (r : Reg8) (hhi : r ≠ p.high s.cfg.pairOrder)
    (hlo : r ≠ p.low s.cfg.pairOrder) : (s.setPair p v).getR8 r = s.getR8 r := by
  rw [State.setPair, getR8_setR8_ne _ _ _ _ hlo, getR8_setR8_ne _ _ _ _ hhi]

theorem toNat_getPair_setR8_high (p : Pair) (b : Byte) :
    ((s.setR8 (p.high s.cfg.pairOrder) b).getPair p).toNat =
      (if p.high s.cfg.pairOrder = .f then b &&& 0xF0#8 else b).toNat * 256 + (s.getR8 (p.low s.cfg.pairOrder)).toNat := by
  rw [toNat_getPair, setR8_cfg, getR8_setR8, getR8_setR8_ne _ _ _ _ (p.high_ne_low _).symm]

theorem toNat_getPair_setR8_low (p : Pair) (b : Byte) :
    ((s.setR8 (p.low s.cfg.pairOrder) b).getPair p).toNat =
      (s.getR8 (p.high s.cfg.pairOrder)).toNat * 256 + (if p.low s.cfg.pairOrder = .f then b &&& 0xF0#8 else b).toNat := by
  rw [toNat_getPair, setR8_cfg, getR8_setR8, getR8_setR8_ne _ _ _ _ (p.high_ne_low _)]
end

/-! ### The driver -/

section
variable (s : State)

theorem setFlag_getR8 (name : FlagName) (v : Bool) (r : Reg8) (hr : r ≠ .f) : (s.setFlag name v).getR8 r = s.getR8 r := by
  cases r with
  | f => exact absurd rfl hr
  | _ => cases name <;> rfl

/-- A bit of a cell is set alone, but that bits 3:0 of F stay zero (R25, R133). -/
theorem getLsbD_setR8 (r : Reg8) {w : Byte} {index : Nat} {bit : Bool}
    (hw : ∀ k, k < 8 → w.getLsbD k = if k = index then bit else (s.getR8 r).getLsbD k) {k : Nat} (hk : k < 8) :
    ((s.setR8 r w).getR8 r).getLsbD k = if k = index ∧ ¬ (r = .f ∧ k < 4) then bit else (s.getR8 r).getLsbD k := by
  by_cases hr : r = .f
  · subst hr
    rw [getLsbD_setR8_f s w hk, hw k hk]
    by_cases hlow : k < 4
    · have hzero : (s.getR8 .f).getLsbD k = false := getLsbD_toByte_of_lt s.f hlow
      simp [hlow, hzero]
    · simp [hlow, Nat.le_of_not_lt hlow]
  · rw [getR8_setR8_self s r w hr, hw k hk]
    simp [hr]

end

theorem driverWrite_setBit (s : State) (r : Reg8) {index : Nat} (h : index < 8) (bit : Bool) :
    ∃ w, driverWrite (.setBit r index bit) s = .ok (s.setR8 r w) ∧
      ∀ k, k < 8 → w.getLsbD k = if k = index then bit else (s.getR8 r).getLsbD k := by
  obtain ⟨w, hset, hbits⟩ := bitSet_of_lt (s.getR8 r) h bit
  exact ⟨w, by rw [driverWrite, hset]; rfl, hbits⟩

end Sys2Proof.Machine

namespace Sys2Proof.Claims

open Machine

/-! ### A load -/

theorem loadBytes_of_inMemory {bytes : List Byte} {s : State} {addr : Word}
    (h : ∀ k, k < bytes.length → s.inMemory (loadAddress addr k)) : ∃ t, loadBytes s addr bytes = .ok t := by
  induction bytes generalizing s addr with
  | nil => exact ⟨s, rfl⟩
  | cons v rest ih =>
    have h0 : s.inMemory addr := by simpa using h 0 (by simp)
    obtain ⟨t, ht⟩ := ih (s := s.storeByte addr v) (addr := addr + 1#16) fun k hk =>
      loadAddress_succ addr k ▸ h (k + 1) (by simpa using hk)
    exact ⟨t, loadBytes_cons_eq_ok.mpr ⟨h0, ht⟩⟩

/-- A load reports its first byte that lies outside memory. -/
theorem loadBytes_of_not_inMemory {bytes : List Byte} {s : State} {addr : Word} {k : Nat} (hk : k < bytes.length)
    (hin : ∀ j, j < k → s.inMemory (loadAddress addr j)) (hout : ¬ s.inMemory (loadAddress addr k)) :
    loadBytes s addr bytes = .error (.memFault (loadAddress addr k) .write) := by
  induction bytes generalizing s addr k with
  | nil => cases hk
  | cons v rest ih =>
    rw [loadBytes_cons_eq_error]
    cases k with
    | zero =>
      rw [loadAddress_zero] at hout ⊢
      exact .inl ⟨hout, rfl⟩
    | succ k =>
      rw [loadAddress_succ] at hout ⊢
      have h0 : s.inMemory addr := by simpa using hin 0 (by omega)
      exact .inr ⟨h0, ih (s := s.storeByte addr v) (Nat.lt_of_succ_lt_succ hk)
        (fun j hj => loadAddress_succ addr j ▸ hin (j + 1) (by omega)) hout⟩

/-- A load leaves the last byte given for each address, and every other byte. -/
theorem loadBytes_byteAt {bytes : List Byte} {s t : State} {addr : Word} (h : loadBytes s addr bytes = .ok t) :
    (∀ k (hk : k < bytes.length),
      (∀ later, k < later → later < bytes.length → loadAddress addr later ≠ loadAddress addr k) →
      t.byteAt (loadAddress addr k) = bytes[k]) ∧
    ∀ a : Word, (∀ k, k < bytes.length → a ≠ loadAddress addr k) → t.byteAt a = s.byteAt a := by
  unfold State.byteAt
  rw [loadBytes_mem h]
  exact ⟨fun k hk => read_writeBytes hk, fun a => read_writeBytes_of_ne⟩

/-! ### The obligations -/

/-- Settles O57: each action is one write of the state, or a load of bytes that are all inside memory. -/
theorem driverWritesWhatItNames : Obligations.DriverWritesWhatItNames := by
  intro s
  refine ⟨fun r v => ?_, fun _ => rfl, fun _ => rfl, fun name v => ?_, fun addr v hin => ?_, fun addr v hout => ?_,
    fun r index v hindex => ?_, fun p v => ?_, fun r index v hindex => ?_, fun addr bytes hin => ?_,
    fun addr bytes k hk hin hout => loadBytes_of_not_inMemory hk hin hout⟩
  · exact ⟨_, rfl, getR8_setR8 s r v, getR8_setR8_ne s r v, setR8_sp .., setR8_pc .., setR8_byteAt s r v⟩
  · have hmem : MemSame s (s.setFlag name v) := fun addr => by simp [State.byteAt]
    exact ⟨_, rfl, by simp [flag_setFlag], fun other hne => by simp [flag_setFlag, hne], setFlag_getR8 s name v,
      setFlag_sp .., setFlag_pc .., hmem⟩
  · exact ⟨_, memWrite_eq_ok.mpr ⟨hin, rfl⟩, byteAt_storeByte_self .., memSameExcept_storeByte s addr v,
      storeByte_getR8 s addr v, rfl, rfl⟩
  · exact memWrite_eq_error.mpr ⟨hout, rfl⟩
  · rw [driverWrite, bitSet_of_ge _ hindex]
    rfl
  · refine ⟨_, rfl, ⟨?_, ?_, getR8_setPair_ne s p v⟩, setPair_sp .., setPair_pc .., setPair_byteAt s p v⟩
    · rw [getR8_setPair_high, ← toNat_msb]
      split
      · exact toNat_and_high _
      · rfl
    · rw [getR8_setPair_low, ← toNat_lsb]
      split
      · exact toNat_and_high _
      · rfl
  · obtain ⟨w, hwrite, hbits⟩ := driverWrite_setBit s r hindex v
    exact ⟨_, hwrite, fun k hk => getLsbD_setR8 s r hbits hk, getR8_setR8_ne s r w, setR8_sp .., setR8_pc ..,
      setR8_byteAt s r w⟩
  · obtain ⟨t, hload⟩ := loadBytes_of_inMemory hin
    obtain ⟨-, hsp, hpc, hcells⟩ := loadBytes_frame hload
    obtain ⟨hstored, hkept⟩ := loadBytes_byteAt hload
    exact ⟨t, hload, hstored, hkept, hcells, hsp, hpc⟩

/-- Settles O24: F is built from its four flags, and a byte written to it gives them. -/
theorem flagRegisterLowBitsAreZero : Obligations.FlagRegisterLowBitsAreZero :=
  fun s => ⟨toNat_toByte s.f, getR8_setR8_f s, fun _ => toByte_and_low _⟩

/-- Settles O23: a pair is read from and written to its two cells, each as that cell alone. -/
theorem pairViewsAliasTheirCells : Obligations.PairViewsAliasTheirCells := by
  intro s p v hi lo
  refine ⟨fun h => ?_, fun h => ?_, toNat_getPair s p, fun h => ?_, fun h => ?_, fun h => ?_, fun h => ?_,
    getR8_setPair_ne s p v, setPair_sp .., setPair_pc .., fun b h => ?_, fun b h => ?_, fun b h => ?_, fun b h => ?_⟩
  · simp [hi, lo, h, Pair.high, Pair.low]
  · simp [hi, lo, h, Pair.high, Pair.low]
  · rw [getR8_setPair_high, if_neg h, toNat_msb]
  · rw [getR8_setPair_low, if_neg h, toNat_lsb]
  · rw [getR8_setPair_high, if_pos h, toNat_and_high, toNat_msb]
  · rw [getR8_setPair_low, if_pos h, toNat_and_high, toNat_lsb]
  · rw [toNat_getPair_setR8_high, if_neg h]
  · rw [toNat_getPair_setR8_low, if_neg h]
  · rw [toNat_getPair_setR8_high, if_pos h, toNat_and_high]
  · rw [toNat_getPair_setR8_low, if_pos h, toNat_and_high]

/-- Settles O55: the sum b + cin leaves the low four bits only at 0xF + 1, where the truncated formula sees 0. -/
theorem halfBorrowIsTheStandardOne : Obligations.HalfBorrowIsTheStandardOne := by
  intro a b cin
  have hhalf : (sub8 a b cin).half = decide (a.toNat % 16 < b.toNat % 16 + cin.toNat) := rfl
  rw [hhalf]
  cases cin with
  | false => simp
  | true =>
    by_cases hb : b.toNat % 16 = 15
    · have h0 : (b.toNat + 1) % 16 = 0 := by omega
      have hlt : a.toNat % 16 < b.toNat % 16 + 1 := by omega
      simp [hb, h0]
      omega
    · have hmod : (b.toNat + 1) % 16 = b.toNat % 16 + 1 := by omega
      simp [hb, hmod]

end Sys2Proof.Claims
end

section
/-! LD between registers, the byte at HL and an immediate (41_loads.md R160 to R164, R173): each is one write of a register
or of the byte at HL, and the step takes an immediate from the bytes after the opcode byte (30_encoding.md R86, R87). -/

namespace Sys2Proof.Machine

section
variable {i : Instr} {r src : Reg8} {s : State}

theorem exec_ld_reg (hform : i.form = .ld (.reg r) (.reg src)) (s : State) :
    exec i s = .next (s.setR8 r (s.getR8 src)) := by
  rw [exec_eq_form, hform]
  rfl

theorem exec_ldImm8_reg {n : Byte} (hform : i.form = .ldImm8 (.reg r) n) (s : State) : exec i s = .next (s.setR8 r n) := by
  rw [exec_eq_form, hform]
  rfl

theorem exec_ldImm16 {r : Reg16} {n : Word} (hform : i.form = .ldImm16 r n) (s : State) :
    exec i s = .next (s.setR16 r n) := by
  rw [exec_eq_form, hform]
  rfl

theorem exec_ldImm8_ind_fault {p : Pair} {post : Post} {n : Byte} (hform : i.form = .ldImm8 (.ind p post) n)
    (hout : ¬ s.inMemory (s.getPair p)) : exec i s = .fault (.memFault (s.getPair p) .write) := by
  rw [exec_eq_form, hform]
  exact commit_eq_fault.mpr (memWrite_eq_error.mpr ⟨hout, rfl⟩)
end

theorem step_of_fetchOperand_error {s : State} {t : Template} {f : Fault} (hpc : s.inMemory s.pc)
    (ht : decodeOpcode (s.byteAt s.pc) = some t) (h : fetchOperand t s = .error f) : step s = .fault f :=
  step_eq_fault.mpr (.inl (fetch_eq_error.mpr (.inr (.inr ⟨hpc, t, ht, h⟩))))

theorem lsb_eq_ofNat (v : Word) : lsb v = BitVec.ofNat 8 (v.toNat % 256) :=
  BitVec.eq_of_toNat_eq (by rw [toNat_lsb, BitVec.toNat_ofNat]; omega)

theorem msb_eq_ofNat (v : Word) : msb v = BitVec.ofNat 8 (v.toNat / 256) :=
  BitVec.eq_of_toNat_eq (by rw [toNat_msb, BitVec.toNat_ofNat]; omega)

end Sys2Proof.Machine

namespace Sys2Proof.Claims

open Machine

/-! ### The immediate -/

theorem takesImm8_of_decodeOpcode {code : Byte} {mk : Byte → Instr} (h : decodeOpcode code = some (.d8 mk)) :
    TakesImm8 code mk := by
  rintro s hpc rfl
  refine ⟨fun h1 => ?_, fun h1 => ?_⟩
  · rw [fetch_of_inMemory hpc h (by simpa [immediateAddresses, Template.length] using h1)]
    exact congrArg _ (congrArg mk (lsb_fromBytes _ _))
  · refine step_of_fetchOperand_error hpc h ((fetchOperand_answers _).1 _ ?_)
    exact (accessFault_singleton _ _).trans (if_neg h1)

theorem takesImm16_of_decodeOpcode {code : Byte} {mk : Word → Instr} (h : decodeOpcode code = some (.d16 mk)) :
    TakesImm16 code mk := by
  rintro s hpc rfl
  have haccess : accessFault s (immediateAddresses s.pc (Template.d16 mk).length) .imm =
      (accessFault s [s.pc + 1#16] .imm).or (accessFault s [s.pc + 2#16] .imm) := accessFault_cons ..
  refine ⟨fun h1 h2 => ⟨immediateWord s, ?_, toNat_fromBytes ..⟩, fun h1 => ?_, fun h1 h2 => ?_⟩
  · exact fetch_of_inMemory hpc h (by simpa [immediateAddresses, Template.length] using And.intro h1 h2)
  · refine step_of_fetchOperand_error hpc h ((fetchOperand_answers _).1 _ ?_)
    rw [haccess, accessFault_singleton, if_neg h1]
    rfl
  · refine step_of_fetchOperand_error hpc h ((fetchOperand_answers _).1 _ ?_)
    rw [haccess, accessFault_singleton, if_pos h1, accessFault_singleton, if_neg h2]
    rfl

/-! ### The rows of the opcode map -/

theorem registerLoads_row : ∀ row ∈ registerLoads, encode row.2.1 = [row.1] ∧ row.2.1.cycles = 4 ∧
    row.2.1.form = .ld (.reg row.2.2.1) (.reg row.2.2.2) ∧ row.2.2.1 ≠ .f := by decide

theorem loadsFromHL_row : ∀ row ∈ loadsFromHL, encode row.2.1 = [row.1] ∧ row.2.1.cycles = 8 ∧
    row.2.1.form = .ld (.reg row.2.2) (.ind .hl .keep) ∧ row.2.2 ≠ .f := by decide

theorem storesToHL_row : ∀ row ∈ storesToHL, encode row.2.1 = [row.1] ∧ row.2.1.cycles = 8 ∧
    row.2.1.form = .ld (.ind .hl .keep) (.reg row.2.2) := by decide

theorem immediateLoads_row {code : Byte} {mk : Byte → Instr} {r : Reg8} (hrow : (code, mk, r) ∈ immediateLoads) :
    decodeOpcode code = some (.d8 mk) ∧ (∀ n, encode (mk n) = [code, n] ∧ (mk n).form = .ldImm8 (.reg r) n) ∧ r ≠ .f := by
  simp only [immediateLoads, List.mem_cons, List.not_mem_nil, or_false, Prod.mk.injEq] at hrow
  obtain ⟨rfl, rfl, rfl⟩ | ⟨rfl, rfl, rfl⟩ | ⟨rfl, rfl, rfl⟩ | ⟨rfl, rfl, rfl⟩ | ⟨rfl, rfl, rfl⟩ |
    ⟨rfl, rfl, rfl⟩ | ⟨rfl, rfl, rfl⟩ := hrow <;>
    exact ⟨rfl, fun _ => ⟨rfl, rfl⟩, by decide⟩

theorem immediateLoads16_row {code : Byte} {mk : Word → Instr} {r : Reg16} (hrow : (code, mk, r) ∈ immediateLoads16) :
    decodeOpcode code = some (.d16 mk) ∧ (∀ n, encode (mk n) = [code, lsb n, msb n] ∧ (mk n).form = .ldImm16 r n) ∧
      r ≠ .pair .af := by
  simp only [immediateLoads16, List.mem_cons, List.not_mem_nil, or_false, Prod.mk.injEq] at hrow
  obtain ⟨rfl, rfl, rfl⟩ | ⟨rfl, rfl, rfl⟩ | ⟨rfl, rfl, rfl⟩ | ⟨rfl, rfl, rfl⟩ := hrow <;>
    exact ⟨rfl, fun _ => ⟨rfl, rfl⟩, by decide⟩

/-! ### The obligations -/

/-- Settles O25: the next state is the old one with the source's value in the destination. -/
theorem ldRegisterFromRegister : Obligations.LdRegisterFromRegister := by
  intro code i dst src hrow
  obtain ⟨henc, hcycles, hform, hdst⟩ := registerLoads_row _ hrow
  exact ⟨.of_encode henc, hcycles, fun s =>
    ⟨_, exec_ld_reg hform s, getR8_setR8_self s dst _ hdst, frame_setR8 s _ hdst, setR8_byteAt s dst _⟩⟩

/-- Settles O26: the next state is the old one with the byte at HL in the destination. -/
theorem ldRegisterFromHL : Obligations.LdRegisterFromHL := by
  intro code i dst hrow
  obtain ⟨henc, hcycles, hform, hdst⟩ := loadsFromHL_row _ hrow
  exact ⟨.of_encode henc, hcycles, fun s => ⟨fun hin =>
    ⟨_, exec_load_next hform hin, getR8_setR8_self s dst _ hdst, frame_setR8 s _ hdst, setR8_byteAt s dst _⟩,
    exec_load_fault hform⟩⟩

/-- Settles O27: the next state is the old one with the register stored at HL. -/
theorem ldHLFromRegister : Obligations.LdHLFromRegister := by
  intro code i src hrow
  obtain ⟨henc, hcycles, hform⟩ := storesToHL_row _ hrow
  exact ⟨.of_encode henc, hcycles, fun s => ⟨fun hin =>
    ⟨_, exec_store_next hform hin, byteAt_storeByte_self .., frame_storeByte .., memSameExcept_storeByte s _ _⟩,
    exec_store_fault hform⟩⟩

/-- Settles O28: the opcode byte selects an instruction with a d8, which writes it to the register. -/
theorem ldRegisterFromImmediate : Obligations.LdRegisterFromImmediate := by
  intro code mk dst hrow
  obtain ⟨hcode, hmk, hdst⟩ := immediateLoads_row hrow
  refine ⟨takesImm8_of_decodeOpcode hcode, fun n => ?_⟩
  obtain ⟨henc, hform⟩ := hmk n
  exact ⟨.of_encode henc, by rw [Instr.cycles, hform]; rfl, by rw [Instr.length, hform], fun s =>
    ⟨_, exec_ldImm8_reg hform s, getR8_setR8_self s dst n hdst, frame_setR8 s n hdst, setR8_byteAt s dst n⟩⟩

/-- Settles O29: code 0x36 selects the instruction with a d8 that stores it at HL. -/
theorem ldHLFromImmediate : Obligations.LdHLFromImmediate := by
  refine ⟨takesImm8_of_decodeOpcode rfl, fun n => ⟨.of_encode rfl, rfl, rfl, fun s => ⟨fun hin => ?_, fun hout => ?_⟩⟩⟩
  · exact ⟨_, exec_ldImm8_ind rfl hin, byteAt_storeByte_self .., frame_storeByte .., memSameExcept_storeByte s _ n⟩
  · exact exec_ldImm8_ind_fault rfl hout

/-- Settles O34: the opcode byte selects an instruction with a d16, which writes it to the 16-bit register. -/
theorem ldRegister16FromImmediate : Obligations.LdRegister16FromImmediate := by
  intro code mk r hrow
  obtain ⟨hcode, hmk, hr⟩ := immediateLoads16_row hrow
  refine ⟨takesImm16_of_decodeOpcode hcode, fun n => ?_⟩
  obtain ⟨henc, hform⟩ := hmk n
  rw [lsb_eq_ofNat, msb_eq_ofNat] at henc
  exact ⟨.of_encode henc, by rw [Instr.cycles, hform], by rw [Instr.length, hform], fun s =>
    ⟨_, exec_ldImm16 hform s, getR16_setR16 s r n hr, frame_setR16 s n hr, setR16_byteAt s r n⟩⟩

end Sys2Proof.Claims
end

section
/-! The instructions that write flags (42_inc_dec.md R182 to R185, 43_alu8.md, 44_alu16_rotate_nop.md R200 to R204): what
the arithmetic helpers and the rotates compute as numbers, and the writes of a result and its flags, with what they keep. -/

namespace Sys2Proof.Machine

/-! ### The helpers as numbers (R120 to R125, R201 to R204) -/

theorem toNat_add8 (a b : Byte) (cin : Bool) : (add8 a b cin).result.toNat = (a.toNat + b.toNat + cin.toNat) % 256 :=
  rfl

theorem toNat_sub8 (a b : Byte) (cin : Bool) :
    (sub8 a b cin).result.toNat = (a.toNat + 512 - b.toNat - cin.toNat) % 256 := by
  show (a - b - BitVec.ofNat 8 cin.toNat).toNat = _
  rw [BitVec.toNat_sub, BitVec.toNat_sub, BitVec.toNat_ofNat]
  have hcin := cin.toNat_le
  omega

theorem sub8_zero_iff (a b : Byte) : (sub8 a b false).zero = decide (a = b) := by
  show decide (a - b - 0#8 = 0#8) = _
  rw [BitVec.sub_zero]
  congr 1
  rw [eq_iff_iff]
  bv_omega

theorem toNat_inc8 (v : Byte) : (inc8 v).result.toNat = (v.toNat + 1) % 256 := toNat_add8 v 1#8 false

theorem inc8_half (v : Byte) : (inc8 v).half = decide (v.toNat % 16 = 15) := by
  show decide (v.toNat % 16 + 1 + 0 > 15) = _
  congr 1
  rw [eq_iff_iff]
  omega

theorem toNat_dec8 (v : Byte) : (dec8 v).result.toNat = (v.toNat + 255) % 256 := by
  rw [dec8, toNat_sub8]
  simp
  omega

theorem dec8_half (v : Byte) : (dec8 v).half = decide (v.toNat % 16 = 0) := by
  show decide (v.toNat % 16 < 1 + 0) = _
  congr 1
  rw [eq_iff_iff]
  omega

theorem sub8_add8 (a v : Byte) : (add8 (sub8 a v false).result v false).result = a ∧
    (add8 (sub8 a v false).result v false).carry = (sub8 a v false).carry := by
  have hsub := toNat_sub8 a v false
  constructor
  · apply BitVec.eq_of_toNat_eq
    rw [toNat_add8, hsub]
    simp
    omega
  · show decide ((sub8 a v false).result.toNat + v.toNat + 0 > 255) = decide (v.toNat + 0 > a.toNat)
    congr 1
    rw [hsub, eq_iff_iff]
    simp
    omega

theorem rlc_eq (a : Byte) (cy : Bool) :
    (rlc a cy).result.toNat = a.toNat * 2 % 256 + a.toNat / 128 ∧ (rlc a cy).out = decide (a.toNat / 128 = 1) := by
  revert a cy
  decide

theorem rrc_eq (a : Byte) (cy : Bool) :
    (rrc a cy).result.toNat = a.toNat / 2 + a.toNat % 2 * 128 ∧ (rrc a cy).out = decide (a.toNat % 2 = 1) := by
  revert a cy
  decide

theorem rl_eq (a : Byte) (cy : Bool) :
    (rl a cy).result.toNat = a.toNat * 2 % 256 + cy.toNat ∧ (rl a cy).out = decide (a.toNat / 128 = 1) := by
  revert a cy
  decide

theorem rr_eq (a : Byte) (cy : Bool) :
    (rr a cy).result.toNat = a.toNat / 2 + cy.toNat * 128 ∧ (rr a cy).out = decide (a.toNat % 2 = 1) := by
  revert a cy
  decide

/-- One more rotate left through carry, of the A and the Cy that the last one left (R202). -/
def Rotated.again (r : Rotated) : Rotated := rl r.result r.out

/-- Nine rotates through carry are one turn of the nine bits Cy and A (R202): a check of their 512 values. -/
theorem again_iterate_nine (a : Byte) (cy : Bool) : Rotated.again^[9] ⟨a, cy⟩ = ⟨a, cy⟩ := by
  revert a cy
  decide

/-! ### The instructions -/

section
variable {i : Instr}

theorem exec_inc8_reg {r : Reg8} (hform : i.form = .inc8 (.reg r)) (s : State) :
    exec i s = .next ((s.setR8 r (inc8 (s.getR8 r)).result).setIncDecFlags (inc8 (s.getR8 r)) false) := by
  rw [exec_eq_form, hform]
  rfl

theorem exec_dec8_reg {r : Reg8} (hform : i.form = .dec8 (.reg r)) (s : State) :
    exec i s = .next ((s.setR8 r (dec8 (s.getR8 r)).result).setIncDecFlags (dec8 (s.getR8 r)) true) := by
  rw [exec_eq_form, hform]
  rfl

theorem exec_inc8_ind {p : Pair} {s : State} (hform : i.form = .inc8 (.ind p .keep)) (hin : s.inMemory (s.getPair p)) :
    exec i s = .next ((s.storeByte (s.getPair p) (inc8 (s.byteAt (s.getPair p))).result).setIncDecFlags
      (inc8 (s.byteAt (s.getPair p))) false) := by
  rw [exec_eq_form, hform]
  exact incOperand_eq_next.mpr ⟨hin, _, memWrite_eq_ok.mpr ⟨hin, rfl⟩, rfl⟩

theorem exec_dec8_ind {p : Pair} {s : State} (hform : i.form = .dec8 (.ind p .keep)) (hin : s.inMemory (s.getPair p)) :
    exec i s = .next ((s.storeByte (s.getPair p) (dec8 (s.byteAt (s.getPair p))).result).setIncDecFlags
      (dec8 (s.byteAt (s.getPair p))) true) := by
  rw [exec_eq_form, hform]
  exact decOperand_eq_next.mpr ⟨hin, _, memWrite_eq_ok.mpr ⟨hin, rfl⟩, rfl⟩

theorem exec_alu_next {op : AluOp} {src : ByteSource} {s : State} (hform : i.form = .alu op src) (h : Readable s src) :
    exec i s = .next (op.result s (operandValue s src)) := by
  rw [exec_eq_form, hform]
  exact AluOp.run_eq_next.mpr ⟨h, rfl⟩

theorem exec_rot {k : Rotate} (hform : i.form = .rot k) (s : State) :
    exec i s = .next ((s.setR8 .a (k.move s.a s.f.cy).result).setFlags false false false (k.move s.a s.f.cy).out) := by
  rw [exec_eq_form, hform]
  rfl

theorem exec_addHL {r : Reg16} (hform : i.form = .addHL r) (s : State) :
    exec i s = .next ((s.setPair .hl (add16 (s.getPair .hl) (s.getR16 r)).result).setFlags s.f.z false
      (add16 (s.getPair .hl) (s.getR16 r)).half (add16 (s.getPair .hl) (s.getR16 r)).carry) := by
  rw [exec_eq_form, hform]
  rfl

/-- An instruction whose operand is read at an address outside memory reports that read. -/
theorem exec_read_fault {s : State} {addr : Word} (hread : i.dataRead s = some addr) (hout : ¬ s.inMemory addr) :
    exec i s = .fault (.memFault addr .read) := by
  refine (exec_reports i s).1 _ ?_
  rw [dataFault, hread, Option.toList_some, accessFault_singleton, if_neg hout]
  rfl
end

end Sys2Proof.Machine

namespace Sys2Proof.Claims

open Machine

/-! ### A write of flags -/

theorem flagsAre_setFlags (s : State) (z n hf cy : Bool) : FlagsAre (s.setFlags z n hf cy) z n hf cy :=
  ⟨rfl, rfl, rfl, rfl⟩

theorem frame_setFlags {flags : List FlagName} {s : State} {z n hf cy : Bool}
    (hkept : ∀ name, name ∉ flags → (s.setFlags z n hf cy).flag name = s.flag name) :
    Frame [] flags false s (s.setFlags z n hf cy) :=
  ⟨fun r hr _ => setFlags_getR8 s z n hf cy r hr, hkept, (toByte_and_low _).trans (toByte_and_low _).symm,
    fun _ => rfl, rfl, rfl⟩

theorem frame_setFlags_all (s : State) (z n hf cy : Bool) :
    Frame [] [.z, .n, .hf, .cy] false s (s.setFlags z n hf cy) :=
  frame_setFlags fun name hn => by cases name <;> simp at hn

theorem frame_setIncDecFlags (s : State) (r : Alu8) (n : Bool) :
    Frame [] [.z, .n, .hf] false s (s.setIncDecFlags r n) :=
  frame_setFlags fun name hn => by cases name <;> simp at hn; rfl

/-! ### INC and DEC -/

/-- The rows of INC r or DEC r of the opcode map, with the family that they belong to. -/
abbrev StepsRegister (family : ByteSource → Form) (row : Byte × Instr × Reg8) : Prop :=
  encode row.2.1 = [row.1] ∧ row.2.1.cycles = 4 ∧ row.2.1.form = family (.reg row.2.2) ∧ row.2.2 ≠ .f

/-- A register set to a helper's result, with its flags but Cy. -/
theorem setR8_setIncDecFlags (s : State) {r : Reg8} (hr : r ≠ .f) (x : Alu8) (n : Bool) :
    ((s.setR8 r x.result).setIncDecFlags x n).getR8 r = x.result ∧
    FlagsAre ((s.setR8 r x.result).setIncDecFlags x n) x.zero n x.half (s.flag .cy) ∧
    Frame [r] [.z, .n, .hf] false s ((s.setR8 r x.result).setIncDecFlags x n) ∧
    MemSame s ((s.setR8 r x.result).setIncDecFlags x n) := by
  refine ⟨?_, ⟨rfl, rfl, rfl, ?_⟩, (frame_setR8 s _ hr).trans (frame_setIncDecFlags ..), setR8_byteAt s r _⟩
  · exact (setFlags_getR8 _ _ _ _ _ _ hr).trans (getR8_setR8_self s r _ hr)
  · show (s.setR8 r x.result).f.cy = s.f.cy
    rw [setR8_f s r _ hr]

/-- A byte of memory set to a helper's result, with its flags but Cy. -/
theorem storeByte_setIncDecFlags (s : State) (addr : Word) (x : Alu8) (n : Bool) :
    ((s.storeByte addr x.result).setIncDecFlags x n).byteAt addr = x.result ∧
    FlagsAre ((s.storeByte addr x.result).setIncDecFlags x n) x.zero n x.half (s.flag .cy) ∧
    Frame [] [.z, .n, .hf] false s ((s.storeByte addr x.result).setIncDecFlags x n) ∧
    MemSameExcept addr s ((s.storeByte addr x.result).setIncDecFlags x n) :=
  ⟨byteAt_storeByte_self .., ⟨rfl, rfl, rfl, rfl⟩, (frame_storeByte ..).trans (frame_setIncDecFlags ..),
    memSameExcept_storeByte s addr _⟩

/-- Settles O37: the register is set to `inc8` of its value, with the flags of that sum but its carry. -/
theorem incRegister8 : Obligations.IncRegister8 := by
  intro code i r hrow
  obtain ⟨henc, hcycles, hform, hr⟩ := (by decide : ∀ row ∈ increments8, StepsRegister .inc8 row) _ hrow
  refine ⟨.of_encode henc, hcycles, fun s => ⟨_, exec_inc8_reg hform s, ?_⟩⟩
  obtain ⟨hget, hflags, hframe, hmem⟩ := setR8_setIncDecFlags s hr (inc8 (s.getR8 r)) false
  rw [hget, ← inc8_half]
  exact ⟨toNat_inc8 _, hflags, hframe, hmem⟩

/-- Settles O38: the register is set to `dec8` of its value, with the flags of that difference but its borrow. -/
theorem decRegister8 : Obligations.DecRegister8 := by
  intro code i r hrow
  obtain ⟨henc, hcycles, hform, hr⟩ := (by decide : ∀ row ∈ decrements8, StepsRegister .dec8 row) _ hrow
  refine ⟨.of_encode henc, hcycles, fun s => ⟨_, exec_dec8_reg hform s, ?_⟩⟩
  obtain ⟨hget, hflags, hframe, hmem⟩ := setR8_setIncDecFlags s hr (dec8 (s.getR8 r)) true
  rw [hget, ← dec8_half]
  exact ⟨toNat_dec8 _, hflags, hframe, hmem⟩

/-- Settles O39: the byte at HL is set to `inc8` of its value, with the flags of that sum but its carry. -/
theorem incByteAtHL : Obligations.IncByteAtHL := by
  refine ⟨.of_encode rfl, rfl, fun s => ⟨fun hin => ⟨_, exec_inc8_ind rfl hin, ?_⟩, exec_read_fault rfl⟩⟩
  obtain ⟨hget, hflags, hframe, hmem⟩ :=
    storeByte_setIncDecFlags s (s.getPair .hl) (inc8 (s.byteAt (s.getPair .hl))) false
  rw [hget, ← inc8_half]
  exact ⟨toNat_inc8 _, hflags, hframe, hmem⟩

/-- Settles O40: the byte at HL is set to `dec8` of its value, with the flags of that difference but its borrow. -/
theorem decByteAtHL : Obligations.DecByteAtHL := by
  refine ⟨.of_encode rfl, rfl, fun s => ⟨fun hin => ⟨_, exec_dec8_ind rfl hin, ?_⟩, exec_read_fault rfl⟩⟩
  obtain ⟨hget, hflags, hframe, hmem⟩ :=
    storeByte_setIncDecFlags s (s.getPair .hl) (dec8 (s.byteAt (s.getPair .hl))) true
  rw [hget, ← dec8_half]
  exact ⟨toNat_dec8 _, hflags, hframe, hmem⟩

/-! ### The 8-bit ALU -/

/-- The rows of one operation of the ALU in the opcode map. -/
abbrev AluRow (op : AluOp) (row : Byte × Instr × ByteSource) : Prop :=
  encode row.2.1 = [row.1] ∧ row.2.1.form = .alu op row.2.2 ∧
    row.2.1.cycles = (if row.2.2 = .ind .hl .keep then 8 else 4) ∧
    (row.2.2 = .ind .hl .keep ∨ isRegister row.2.2 = true) ∧ row.2.2 ≠ .reg .f

/-- A set with all four flags, or A kept. -/
theorem frame_setR8_a_setFlags (s : State) (v : Byte) (z n hf cy : Bool) :
    Frame [.a] [.z, .n, .hf, .cy] false s ((s.setR8 .a v).setFlags z n hf cy) :=
  (frame_setR8 s v (by decide)).trans (frame_setFlags_all ..)

theorem frame_aluResult (op : AluOp) (s : State) (v : Byte) :
    Frame [.a] [.z, .n, .hf, .cy] false s (op.result s v) := by
  cases op with
  | cp => exact frame_setR8_a_setFlags s s.a _ _ _ _
  | _ => exact frame_setR8_a_setFlags ..

theorem byteAt_aluResult (op : AluOp) (s : State) (v : Byte) (addr : Word) :
    (op.result s v).byteAt addr = s.byteAt addr := by
  cases op <;> rfl

/-- An ALU instruction runs as its operation computes A and the flags. -/
theorem aluRuns_of_rows {rows : List (Byte × Instr × ByteSource)} {op : AluOp} {effect : State → Byte → State → Prop}
    (hrows : ∀ row ∈ rows, AluRow op row) (heffect : ∀ s v, effect s v (op.result s v)) :
    ∀ code i src, (code, i, src) ∈ rows → AluRuns code i src effect := by
  intro code i src hrow
  obtain ⟨henc, hform, hcycles, hsrc, -⟩ := hrows _ hrow
  refine ⟨.of_encode henc, hcycles, fun s => ⟨fun hin => ?_, fun hout => ?_⟩⟩
  · exact ⟨_, exec_alu_next hform hin, heffect s _, frame_aluResult .., byteAt_aluResult op s _⟩
  · obtain rfl | hreg := hsrc
    · exact exec_read_fault (by rw [Instr.dataRead, hform]; rfl) hout
    · cases src with
      | reg r => exact absurd trivial hout
      | ind p post => cases hreg

/-- Settles O41: the outputs of `add8` with no carry in are the sums of the statement. -/
theorem addToAccumulator : Obligations.AddToAccumulator :=
  aluRuns_of_rows (op := .add) (by decide) fun s v => ⟨toNat_add8 s.a v false, flagsAre_setFlags ..⟩

/-- Settles O42: the outputs of `add8` with the old Cy as carry in are the sums of the statement. -/
theorem adcToAccumulator : Obligations.AdcToAccumulator :=
  aluRuns_of_rows (op := .adc) (by decide) fun s v => ⟨toNat_add8 s.a v s.f.cy, flagsAre_setFlags ..⟩

/-- Settles O43: the outputs of `sub8` with no borrow in are the difference of the statement and its borrows. -/
theorem subToAccumulator : Obligations.SubToAccumulator := by
  refine aluRuns_of_rows (op := .sub) (by decide) fun s v => ⟨?_, flagsAre_setFlags ..⟩
  refine (toNat_sub8 s.a v false).trans ?_
  have hv := v.isLt
  simp
  omega

/-- Settles O44: the outputs of `sub8` with the old Cy as borrow in are the difference of the statement and its borrows. -/
theorem sbcToAccumulator : Obligations.SbcToAccumulator :=
  aluRuns_of_rows (op := .sbc) (by decide) fun s v => ⟨toNat_sub8 s.a v s.f.cy, flagsAre_setFlags ..⟩

/-- Settles O45: the logic operations write Z from their result and clear N and Cy; AND alone sets Hf. -/
theorem andToAccumulator : Obligations.AndToAccumulator :=
  aluRuns_of_rows (op := .and) (by decide) fun _ _ => ⟨rfl, flagsAre_setFlags ..⟩

/-- Settles O46: XOR writes Z from its result and clears the other flags. -/
theorem xorToAccumulator : Obligations.XorToAccumulator :=
  aluRuns_of_rows (op := .xor) (by decide) fun _ _ => ⟨rfl, flagsAre_setFlags ..⟩

/-- Settles O47: OR writes Z from its result and clears the other flags. -/
theorem orToAccumulator : Obligations.OrToAccumulator :=
  aluRuns_of_rows (op := .or) (by decide) fun _ _ => ⟨rfl, flagsAre_setFlags ..⟩

/-- Settles O48: the flags are those of the difference, which is 0 exactly where A is the operand. -/
theorem compareWithAccumulator : Obligations.CompareWithAccumulator := by
  refine aluRuns_of_rows (op := .cp) (by decide) fun s v => ⟨rfl, ?_⟩
  rw [← sub8_zero_iff]
  exact flagsAre_setFlags ..

/-- Settles O54: the SUB keeps the operand, and adding it to the difference carries exactly where the SUB borrowed. -/
theorem subtractThenAddRestores : Obligations.SubtractThenAddRestores := by
  intro codeS sub codeA add r hsub hadd hr s
  obtain ⟨-, hsubForm, -, -, hf⟩ := (by decide : ∀ row ∈ subRows, AluRow .sub row) _ hsub
  obtain ⟨-, haddForm, -⟩ := (by decide : ∀ row ∈ addRows, AluRow .add row) _ hadd
  refine ⟨_, _, exec_alu_next hsubForm trivial, exec_alu_next haddForm trivial, ?_⟩
  obtain ⟨hcells, -⟩ := frame_aluResult .sub s (operandValue s (.reg r))
  have hkept : operandValue (AluOp.sub.result s (operandValue s (.reg r))) (.reg r) = operandValue s (.reg r) :=
    hcells r (fun h => hf (congrArg _ h)) (by simpa using hr)
  rw [hkept]
  exact sub8_add8 s.a (operandValue s (.reg r))

/-! ### ADD HL and the rotates of A -/

theorem addsToHL_row : ∀ row ∈ addsToHL, encode row.2.1 = [row.1] ∧ row.2.1.cycles = 8 ∧
    row.2.1.form = .addHL row.2.2 := by decide

/-- Settles O49: HL is set to the sum of the old HL and the old rr, with the carries of `add16`. -/
theorem addToHL : Obligations.AddToHL := by
  intro code i r hrow
  obtain ⟨henc, hcycles, hform⟩ := addsToHL_row _ hrow
  refine ⟨.of_encode henc, hcycles, fun s =>
    ⟨_, exec_addHL hform s, ?_, flagsAre_setFlags .., ?_, setPair_byteAt s .hl _⟩⟩
  · rw [setFlags_getPair _ _ _ _ _ _ (by decide), getPair_setPair _ _ _ (by decide)]
    rfl
  · refine (frame_setPair s _ (p := .hl) (by decide)).trans (frame_setFlags (flags := [.n, .hf, .cy]) fun name hn => ?_)
    cases name <;> simp at hn
    exact (congrArg Flags.z (setPair_f s .hl _ (by decide))).symm

/-- A rotate of A: its result and the bit it shifts out, and no other flag. -/
theorem rotate_runs {i : Instr} {k : Rotate} (hform : i.form = .rot k) (s : State) :
    ∃ t, exec i s = .next t ∧ t.a = (k.move s.a s.f.cy).result ∧
      FlagsAre t false false false (k.move s.a s.f.cy).out ∧ Frame [.a] [.z, .n, .hf, .cy] false s t ∧ MemSame s t :=
  ⟨_, exec_rot hform s, rfl, flagsAre_setFlags .., frame_setR8_a_setFlags .., fun _ => rfl⟩

/-- Settles O50: A is set to its rotation, and Cy to the bit that moves round. -/
theorem rotateAccumulatorCircular : Obligations.RotateAccumulatorCircular := by
  refine ⟨⟨.of_encode rfl, rfl, fun s => ?_⟩, .of_encode rfl, rfl, fun s => ?_⟩
  · obtain ⟨t, hexec, ha, hflags, hframe⟩ := rotate_runs (i := .rlca) rfl s
    obtain ⟨hresult, hout⟩ := rlc_eq s.a s.f.cy
    exact ⟨t, hexec, ha ▸ hresult, hout ▸ hflags, hframe⟩
  · obtain ⟨t, hexec, ha, hflags, hframe⟩ := rotate_runs (i := .rrca) rfl s
    obtain ⟨hresult, hout⟩ := rrc_eq s.a s.f.cy
    exact ⟨t, hexec, ha ▸ hresult, hout ▸ hflags, hframe⟩

/-- Settles O51: A is set to its rotation through Cy, and Cy to the bit that leaves A. -/
theorem rotateAccumulatorThroughCarry : Obligations.RotateAccumulatorThroughCarry := by
  refine ⟨⟨.of_encode rfl, rfl, fun s => ?_⟩, .of_encode rfl, rfl, fun s => ?_⟩
  · obtain ⟨t, hexec, ha, hflags, hframe⟩ := rotate_runs (i := .rla) rfl s
    obtain ⟨hresult, hout⟩ := rl_eq s.a s.f.cy
    exact ⟨t, hexec, ha ▸ hresult, hout ▸ hflags, hframe⟩
  · obtain ⟨t, hexec, ha, hflags, hframe⟩ := rotate_runs (i := .rra) rfl s
    obtain ⟨hresult, hout⟩ := rr_eq s.a s.f.cy
    exact ⟨t, hexec, ha ▸ hresult, hout ▸ hflags, hframe⟩

/-- RLA run k times turns the nine bits Cy and A k times. -/
theorem execTimes_rla (k : Nat) (s : State) :
    ∃ t, execTimes .rla k s = .next t ∧ ⟨t.a, t.f.cy⟩ = Rotated.again^[k] ⟨s.a, s.f.cy⟩ := by
  induction k generalizing s with
  | zero => exact ⟨s, rfl, rfl⟩
  | succ k ih =>
    exact ih ((s.setR8 .a (rl s.a s.f.cy).result).setFlags false false false (rl s.a s.f.cy).out)

/-- Settles O53: the nine bits Cy and A come round after nine turns. -/
theorem nineRotatesThroughCarryRestore : Obligations.NineRotatesThroughCarryRestore := by
  intro s
  obtain ⟨t, hexec, hbits⟩ := execTimes_rla 9 s
  rw [again_iterate_nine, Rotated.mk.injEq] at hbits
  exact ⟨t, hexec, hbits⟩

end Sys2Proof.Claims
end

section
/-! What no instruction depends on (10_state.md R22, R26, R27, R30, R34): a change of state that commutes with each operand
and 16-bit register an instruction names commutes with the instruction. Such changes are those of SP, of PAIR_ORDER and of
the flags, each for the instructions whose operands avoid it. -/

namespace Sys2Proof.Machine

/-! ### The operands of a form -/

/-- The 8-bit operands of a form. -/
def Form.operands : Form → List ByteSource
  | .ld dst src => [dst, src]
  | .ldImm8 operand _ | .inc8 operand | .dec8 operand | .alu _ operand => [operand]
  | .nop | .rot _ | .ldImm16 _ _ | .inc16 _ | .dec16 _ | .addHL _ => []

/-- The 16-bit registers of a form, but for the pointers of its operands. -/
def Form.registers : Form → List Reg16
  | .ldImm16 r _ | .inc16 r | .dec16 r => [r]
  | .addHL r => [.pair .hl, r]
  | .nop | .rot _ | .ld _ _ | .ldImm8 _ _ | .inc8 _ | .dec8 _ | .alu _ _ => []

/-- The operand is not F, nor the byte AF points at (R28). -/
def ByteSource.avoidsF : ByteSource → Bool
  | .reg r => r != .f
  | .ind p _ => p != .af

/-- The 16-bit register is not AF (R29). -/
def Reg16.avoidsF (r : Reg16) : Bool := r != .pair .af

theorem avoidsF_of_mem_operands {i : Instr} {src : ByteSource} (h : src ∈ i.form.operands) : src.avoidsF = true := by
  have hall : i.form.operands.all ByteSource.avoidsF = true := by cases i <;> rfl
  exact List.all_eq_true.mp hall src h

theorem avoidsF_of_mem_registers {i : Instr} {r : Reg16} (h : r ∈ i.form.registers) : r.avoidsF = true := by
  have hall : i.form.registers.all Reg16.avoidsF = true := by cases i <;> rfl
  exact List.all_eq_true.mp hall r h

/-! ### Writes that keep F -/

theorem ByteSource.set_f {dst : ByteSource} {v : Byte} {s t : State} (h : dst.set v s = .ok t) (hdst : dst.avoidsF = true) :
    t.f = s.f := by
  obtain ⟨r, rfl, rfl⟩ | ⟨p, post, rfl, -, rfl⟩ := ByteSource.set_eq_ok.mp h
  · exact setR8_f s r v (by simpa [ByteSource.avoidsF] using hdst)
  · rfl

theorem ByteSource.afterAccess_f {src : ByteSource} (s : State) (h : src.avoidsF = true) : (src.afterAccess s).f = s.f := by
  cases src with
  | reg r => rfl
  | ind p post =>
    have hp : p ≠ .af := by simpa [ByteSource.avoidsF] using h
    cases post with
    | keep => rfl
    | inc | dec => exact setPair_f s p _ hp

theorem setR16_f {r : Reg16} (s : State) (v : Word) (h : r.avoidsF = true) : (s.setR16 r v).f = s.f := by
  cases r with
  | sp => rfl
  | pair p => exact setPair_f s p v (by simpa [Reg16.avoidsF] using h)

/-! ### Changes of state that commute with a form -/

/-- A change of state keeps the value of a part of it and commutes with the write of that part. -/
structure Independent {α : Type} (φ : State → State) (get : State → α) (set : State → α → State) : Prop where
  get_eq : ∀ s, get (φ s) = get s
  set_eq : ∀ s v, set (φ s) v = φ (set s v)

/-- A change of state leaves memory and its size alone. -/
structure KeepsMemory (φ : State → State) : Prop where
  memSize : ∀ s, (φ s).cfg.memSize = s.cfg.memSize
  mem : ∀ s, (φ s).mem = s.mem
  storeByte : ∀ s addr v, (φ s).storeByte addr v = φ (s.storeByte addr v)

/-- A change of state commutes with the reads, the writes and the post-modification of an operand. -/
structure ByteSource.Commutes (φ : State → State) (src : ByteSource) : Prop where
  get_eq : ∀ s, src.get (φ s) = src.get s
  set_eq : ∀ v s, src.set v (φ s) = (src.set v s).map φ
  after_eq : ∀ s, src.afterAccess (φ s) = φ (src.afterAccess s)

section
variable {φ ψ : State → State}

theorem ByteSource.Commutes.reg {r : Reg8} (h : Independent φ (·.getR8 r) (·.setR8 r)) : (ByteSource.reg r).Commutes φ :=
  ⟨fun s => congrArg Except.ok (h.get_eq s), fun v s => congrArg Except.ok (h.set_eq s v), fun _ => rfl⟩

theorem ByteSource.Commutes.ind {p : Pair} (post : Post) (hmem : KeepsMemory φ)
    (h : Independent φ (·.getPair p) (·.setPair p)) : (ByteSource.ind p post).Commutes φ where
  get_eq s := by
    have hpair : (φ s).getPair p = s.getPair p := h.get_eq s
    simp only [ByteSource.get, memRead, State.inMemory, State.byteAt, hpair, hmem.memSize, hmem.mem]
  set_eq v s := by
    have hpair : (φ s).getPair p = s.getPair p := h.get_eq s
    simp only [ByteSource.set, memWrite, State.inMemory, hpair, hmem.memSize, hmem.storeByte]
    split <;> rfl
  after_eq s := by
    have hpair : (φ s).getPair p = s.getPair p := h.get_eq s
    cases post with
    | keep => rfl
    | inc | dec =>
      simp only [ByteSource.afterAccess, hpair]
      exact h.set_eq s _

/-- A pair is independent of what its two cells are, if the pair order is kept. -/
theorem Independent.pair {p : Pair} (horder : ∀ s, (φ s).cfg.pairOrder = s.cfg.pairOrder)
    (hfirst : Independent φ (·.getR8 p.first) (·.setR8 p.first))
    (hsecond : Independent φ (·.getR8 p.second) (·.setR8 p.second)) : Independent φ (·.getPair p) (·.setPair p) := by
  have hcell : ∀ r, r = p.first ∨ r = p.second → Independent φ (·.getR8 r) (·.setR8 r) := by
    rintro r (rfl | rfl)
    exacts [hfirst, hsecond]
  have hhigh := fun order => hcell (p.high order) (by cases order <;> simp [Pair.high])
  have hlow := fun order => hcell (p.low order) (by cases order <;> simp [Pair.low])
  refine ⟨fun s => ?_, fun s v => ?_⟩
  · show (φ s).getPair p = s.getPair p
    rw [State.getPair, horder, (hlow _).get_eq, (hhigh _).get_eq, ← State.getPair]
  · show (φ s).setPair p v = φ (s.setPair p v)
    rw [State.setPair, horder, (hhigh _).set_eq, (hlow _).set_eq, ← State.setPair]

/-- What a form does to the flags turns a change before it into a change after it. -/
def Form.FlagsCommute (φ ψ : State → State) (s : State) : Form → Prop
  | .nop | .ld _ _ | .ldImm8 _ _ | .ldImm16 _ _ | .inc16 _ | .dec16 _ => ∀ u, φ u = ψ u
  | .inc8 _ | .dec8 _ => ∀ u x n, (φ u).setIncDecFlags x n = ψ (u.setIncDecFlags x n)
  | .addHL _ => ∀ u n hf cy, (φ u).setFlags (φ s).f.z n hf cy = ψ (u.setFlags s.f.z n hf cy)
  | .alu op _ => ∀ v, op.result (φ s) v = ψ (op.result s v)
  | .rot k => rotateA k.move (φ s) = Claims.mapNext ψ (rotateA k.move s)

theorem commit_map (r : Except Fault State) : commit (r.map φ) = Claims.mapNext φ (commit r) := by
  cases r <;> rfl

/-- A read, then a write, then what follows the write: changed before is changed after. -/
theorem commit_bind_commutes {x : Except Fault Byte} {set set' : Byte → Except Fault State} {k k' : Byte → State → State}
    (hset : ∀ v, set' v = (set v).map φ) (hk : ∀ v t, k' v (φ t) = ψ (k v t)) :
    commit (x >>= fun v => set' v >>= fun t => .ok (k' v t)) =
      Claims.mapNext ψ (commit (x >>= fun v => set v >>= fun t => .ok (k v t))) := by
  cases x with
  | error f => rfl
  | ok v =>
    simp only [bind, Except.bind, hset]
    cases set v with
    | error f => rfl
    | ok t => exact congrArg Host.Outcome.next (hk v t)

theorem Form.run_commutes {form : Form} {s : State} (hoperands : ∀ src ∈ form.operands, src.Commutes φ)
    (hregisters : ∀ r ∈ form.registers, Independent φ (·.getR16 r) (·.setR16 r)) (hflags : form.FlagsCommute φ ψ s) :
    form.run (φ s) = Claims.mapNext ψ (form.run s) := by
  cases form with
  | nop => exact congrArg _ (hflags s)
  | rot k => exact hflags
  | ld dst src =>
    obtain ⟨-, hset, hdst⟩ := hoperands dst (by simp [Form.operands])
    obtain ⟨hget, -, hsrc⟩ := hoperands src (by simp [Form.operands])
    simp only [Form.run, load8, hget]
    exact commit_bind_commutes (fun v => hset v s) fun _ t => by rw [hsrc, hdst, hflags]
  | ldImm8 dst n =>
    obtain ⟨-, hset, -⟩ := hoperands dst (by simp [Form.operands])
    obtain rfl : φ = ψ := funext hflags
    simp only [Form.run, loadImm8, hset]
    exact commit_map _
  | inc8 operand =>
    obtain ⟨hget, hset, hafter⟩ := hoperands operand (by simp [Form.operands])
    simp only [Form.run, incOperand, hget]
    exact commit_bind_commutes (fun v => hset _ s) fun _ t => by rw [hafter, hflags]
  | dec8 operand =>
    obtain ⟨hget, hset, hafter⟩ := hoperands operand (by simp [Form.operands])
    simp only [Form.run, decOperand, hget]
    exact commit_bind_commutes (fun v => hset _ s) fun _ t => by rw [hafter, hflags]
  | alu op src =>
    obtain ⟨hget, -, -⟩ := hoperands src (by simp [Form.operands])
    simp only [Form.run, AluOp.run_eq_withOperand, withOperand, hget]
    cases src.get s with
    | error f => rfl
    | ok v => exact congrArg Host.Outcome.next (hflags v)
  | ldImm16 r n =>
    obtain ⟨-, hset⟩ := hregisters r (by simp [Form.registers])
    exact congrArg Host.Outcome.next ((hset s n).trans (hflags _))
  | inc16 r | dec16 r =>
    obtain ⟨hget, hset⟩ := hregisters r (by simp [Form.registers])
    have hr : (φ s).getR16 r = s.getR16 r := hget s
    simp only [Form.run, incReg16, decReg16, hr]
    exact congrArg Host.Outcome.next ((hset s _).trans (hflags _))
  | addHL r =>
    obtain ⟨hgetHL, hsetHL⟩ := hregisters (.pair .hl) (by simp [Form.registers])
    obtain ⟨hget, -⟩ := hregisters r (by simp [Form.registers])
    have hhl : (φ s).getPair .hl = s.getPair .hl := hgetHL s
    have hr : (φ s).getR16 r = s.getR16 r := hget s
    have hset : ∀ v, (φ s).setPair .hl v = φ (s.setPair .hl v) := hsetHL s
    simp only [Form.run, Machine.addHL, hhl, hr, hset]
    exact congrArg Host.Outcome.next (hflags _ _ _ _)
end

/-! ### SP -/

/-- The state with another SP. -/
def State.withSp (v : Word) (s : State) : State := { s with sp := v }

theorem withSp_cell (v : Word) (r : Reg8) : Independent (State.withSp v) (·.getR8 r) (·.setR8 r) :=
  ⟨fun s => by cases r <;> rfl, fun s b => by cases r <;> rfl⟩

theorem withSp_pair (v : Word) (p : Pair) : Independent (State.withSp v) (·.getPair p) (·.setPair p) :=
  .pair (fun _ => rfl) (withSp_cell v _) (withSp_cell v _)

theorem withSp_operand (v : Word) (src : ByteSource) : src.Commutes (State.withSp v) := by
  cases src with
  | reg r => exact .reg (withSp_cell v r)
  | ind p post => exact .ind post ⟨fun _ => rfl, fun _ => rfl, fun _ _ _ => rfl⟩ (withSp_pair v p)

theorem withSp_flags (v : Word) (form : Form) (s : State) : form.FlagsCommute (State.withSp v) (State.withSp v) s := by
  cases form with
  | alu op src => cases op <;> exact fun _ => rfl
  | rot k => rfl
  | nop | ld | ldImm8 | ldImm16 | inc16 | dec16 => exact fun _ => rfl
  | inc8 | dec8 => exact fun _ _ _ => rfl
  | addHL => exact fun _ _ _ _ => rfl

/-! ### PAIR_ORDER -/

/-- The state with another pair order. -/
def State.withPairOrder (order : PairOrder) (s : State) : State := { s with cfg := { s.cfg with pairOrder := order } }

theorem withPairOrder_cell (order : PairOrder) (r : Reg8) :
    Independent (State.withPairOrder order) (·.getR8 r) (·.setR8 r) :=
  ⟨fun s => by cases r <;> rfl, fun s b => by cases r <;> rfl⟩

theorem withPairOrder_flags (order : PairOrder) (form : Form) (s : State) :
    form.FlagsCommute (State.withPairOrder order) (State.withPairOrder order) s := by
  cases form with
  | alu op src => cases op <;> exact fun _ => rfl
  | rot k => rfl
  | nop | ld | ldImm8 | ldImm16 | inc16 | dec16 => exact fun _ => rfl
  | inc8 | dec8 => exact fun _ _ _ => rfl
  | addHL => exact fun _ _ _ _ => rfl

/-! ### The flags -/

/-- The state with other flags. -/
def State.withFlags (f : Flags) (s : State) : State := { s with f := f }

/-- The state with other flags, but for those of a list. -/
def State.withFlagsBut (written : List FlagName) (f : Flags) (s : State) : State :=
  { s with f :=
    { z := if .z ∈ written then s.f.z else f.z
      n := if .n ∈ written then s.f.n else f.n
      hf := if .hf ∈ written then s.f.hf else f.hf
      cy := if .cy ∈ written then s.f.cy else f.cy } }

theorem withFlagsBut_flag {written : List FlagName} (f : Flags) (s : State) {name : FlagName} (h : name ∈ written) :
    (s.withFlagsBut written f).flag name = s.flag name := by
  cases name <;> exact if_pos h

theorem withFlags_cell (f : Flags) {r : Reg8} (hr : r ≠ .f) : Independent (State.withFlags f) (·.getR8 r) (·.setR8 r) := by
  cases r with
  | f => exact absurd rfl hr
  | _ => exact ⟨fun _ => rfl, fun _ _ => rfl⟩

theorem withFlags_pair (f : Flags) {p : Pair} (hp : p ≠ .af) :
    Independent (State.withFlags f) (·.getPair p) (·.setPair p) := by
  refine .pair (fun _ => rfl) (withFlags_cell f ?_) (withFlags_cell f ?_) <;> revert hp <;> cases p <;> decide

theorem withFlags_operand (f : Flags) {src : ByteSource} (h : src.avoidsF = true) : src.Commutes (State.withFlags f) := by
  cases src with
  | reg r => exact .reg (withFlags_cell f (by simpa [ByteSource.avoidsF] using h))
  | ind p post =>
    exact .ind post ⟨fun _ => rfl, fun _ => rfl, fun _ _ _ => rfl⟩
      (withFlags_pair f (by simpa [ByteSource.avoidsF] using h))

theorem withFlags_register (f : Flags) {r : Reg16} (h : r.avoidsF = true) :
    Independent (State.withFlags f) (·.getR16 r) (·.setR16 r) := by
  cases r with
  | sp => exact ⟨fun _ => rfl, fun _ _ => rfl⟩
  | pair p => exact withFlags_pair f (by simpa [Reg16.avoidsF] using h)

end Sys2Proof.Machine

namespace Sys2Proof.Claims

open Machine

/-- A form that does not read Cy, or finds it as it was, writes its flags alike (R27). -/
theorem withFlags_flags {i : Instr} {s : State} {f : Flags} (hcarry : readsCarry i = true → f.cy = s.f.cy) :
    i.form.FlagsCommute (State.withFlags f) (State.withFlagsBut (flagsWritten i) f) s := by
  unfold readsCarry at hcarry
  unfold flagsWritten
  cases hform : i.form with
  | nop | ld | ldImm8 | ldImm16 | inc16 | dec16 => exact fun _ => rfl
  | inc8 | dec8 => exact fun _ _ _ => rfl
  | addHL => exact fun _ _ _ _ => rfl
  | alu op src =>
    rw [hform] at hcarry
    cases op with
    | adc | sbc =>
      intro v
      have hcy : (s.withFlags f).f.cy = s.f.cy := hcarry rfl
      rw [AluOp.result, hcy]
      rfl
    | _ => exact fun _ => rfl
  | rot k =>
    rw [hform] at hcarry
    cases k with
    | rla | rra =>
      have hcy : (s.withFlags f).f.cy = s.f.cy := hcarry rfl
      simp only [Form.FlagsCommute, rotateA, hcy]
      rfl
    | _ => rfl

theorem flag_eq_of_f_eq {s t : State} (h : t.f = s.f) (name : FlagName) : t.flag name = s.flag name := by
  cases name <;> simp [State.flag, h]

/-- Settles O15: the operands of a form avoid F, and what it then writes of the flags is in the table. -/
theorem onlyFlagWritersChangeFlags : Obligations.OnlyFlagWritersChangeFlags := by
  intro i s t name hexec hname
  have hoperands := fun src => avoidsF_of_mem_operands (i := i) (src := src)
  have hregisters := fun r => avoidsF_of_mem_registers (i := i) (r := r)
  rw [exec_eq_form] at hexec
  unfold flagsWritten at hname
  cases hform : i.form <;> rw [hform] at hexec hname hoperands hregisters
  case nop => cases hexec; rfl
  case ld dst src =>
    obtain ⟨-, u, hset, rfl⟩ := load8_eq_next.mp hexec
    refine flag_eq_of_f_eq ?_ name
    rw [ByteSource.afterAccess_f _ (hoperands dst (by simp [Form.operands])),
      ByteSource.afterAccess_f _ (hoperands src (by simp [Form.operands]))]
    exact ByteSource.set_f hset (hoperands dst (by simp [Form.operands]))
  case ldImm8 dst n =>
    exact flag_eq_of_f_eq (ByteSource.set_f (loadImm8_eq_next.mp hexec) (hoperands dst (by simp [Form.operands]))) name
  case ldImm16 r n | inc16 r | dec16 r =>
    cases hexec
    exact flag_eq_of_f_eq (setR16_f s _ (hregisters r (by simp [Form.registers]))) name
  case inc8 operand =>
    have hf := hoperands operand (by simp [Form.operands])
    obtain ⟨-, u, hset, rfl⟩ := incOperand_eq_next.mp hexec
    have hu := (ByteSource.afterAccess_f u hf).trans (ByteSource.set_f hset hf)
    obtain ⟨-, hflags, -⟩ := frame_setIncDecFlags (operand.afterAccess u) (inc8 (operandValue s operand)) false
    exact (hflags name hname).trans (flag_eq_of_f_eq hu name)
  case dec8 operand =>
    have hf := hoperands operand (by simp [Form.operands])
    obtain ⟨-, u, hset, rfl⟩ := decOperand_eq_next.mp hexec
    have hu := (ByteSource.afterAccess_f u hf).trans (ByteSource.set_f hset hf)
    obtain ⟨-, hflags, -⟩ := frame_setIncDecFlags (operand.afterAccess u) (dec8 (operandValue s operand)) true
    exact (hflags name hname).trans (flag_eq_of_f_eq hu name)
  case addHL r =>
    cases hexec
    cases name <;> simp at hname
    rfl
  case rot k => cases name <;> simp at hname
  case alu op src => cases name <;> simp at hname

/-- Settles O16: the flags commute with every operand, none of which is F or AF, and with the writes of flags. -/
theorem flagsOtherThanCarryAreNotRead : Obligations.FlagsOtherThanCarryAreNotRead := by
  intro i s f hcarry
  have hrun : exec i (s.withFlags f) = mapNext (State.withFlagsBut (flagsWritten i) f) (exec i s) := by
    rw [exec_eq_form, exec_eq_form]
    exact Form.run_commutes (fun src h => withFlags_operand f (avoidsF_of_mem_operands h))
      (fun r h => withFlags_register f (avoidsF_of_mem_registers h)) (withFlags_flags hcarry)
  refine ⟨fun t ht => ?_, fun fault hfault => ?_⟩
  · rw [ht] at hrun
    refine ⟨_, hrun, fun r hr => ?_, rfl, rfl, fun _ => rfl, fun name => withFlagsBut_flag f t⟩
    cases r with
    | f => exact absurd rfl hr
    | _ => rfl
  · rw [hfault] at hrun
    exact hrun

/-- Settles O17: SP commutes with every operand, and with every 16-bit register but SP. -/
theorem stackPointerIsData : Obligations.StackPointerIsData := by
  intro i s v hld hinc hdec hadd
  have hsp : Reg16.sp ∉ i.form.registers := by
    cases i <;> simp [Instr.form, Form.registers] at hld hinc hdec hadd ⊢
  have hregisters : ∀ r ∈ i.form.registers, Independent (State.withSp v) (·.getR16 r) (·.setR16 r) := by
    intro r hr
    cases r with
    | sp => exact absurd hr hsp
    | pair p => exact withSp_pair v p
  have hrun := Form.run_commutes (fun src _ => withSp_operand v src) hregisters (withSp_flags v i.form s)
  rwa [← exec_eq_form, ← exec_eq_form] at hrun

theorem isRegister_of_mem_operands {i : Instr} (h : usesPair i = false) {src : ByteSource} (hsrc : src ∈ i.form.operands) :
    isRegister src = true := by
  unfold usesPair at h
  cases hform : i.form with
  | ld dst src' =>
    rw [hform] at h hsrc
    obtain ⟨hdst, hsrc'⟩ : isRegister dst = true ∧ isRegister src' = true := by simpa using h
    obtain rfl | rfl : src = dst ∨ src = src' := by simpa [Form.operands] using hsrc
    exacts [hdst, hsrc']
  | ldImm8 operand n | inc8 operand | dec8 operand | alu op operand =>
    rw [hform] at h hsrc
    obtain rfl : src = operand := by simpa [Form.operands] using hsrc
    simpa using h
  | _ =>
    rw [hform] at hsrc
    cases hsrc

theorem eq_sp_of_mem_registers {i : Instr} (h : usesPair i = false) {r : Reg16} (hr : r ∈ i.form.registers) : r = .sp := by
  unfold usesPair at h
  cases hform : i.form with
  | ldImm16 r' n | inc16 r' | dec16 r' =>
    rw [hform] at h hr
    obtain rfl : r = r' := by simpa [Form.registers] using hr
    cases r with
    | sp => rfl
    | pair p => cases h
  | addHL r' =>
    rw [hform] at h
    cases h
  | _ =>
    rw [hform] at hr
    cases hr

/-- Settles O18: PAIR_ORDER commutes with every register operand and with SP, the operands of what uses no pair. -/
theorem pairOrderIsSeenByPairUsersOnly : Obligations.PairOrderIsSeenByPairUsersOnly := by
  intro i s order huses
  have hoperands : ∀ src ∈ i.form.operands, src.Commutes (State.withPairOrder order) := by
    intro src hsrc
    have hreg := isRegister_of_mem_operands huses hsrc
    cases src with
    | reg r => exact .reg (withPairOrder_cell order r)
    | ind p post => cases hreg
  have hregisters : ∀ r ∈ i.form.registers, Independent (State.withPairOrder order) (·.getR16 r) (·.setR16 r) := by
    intro r hr
    rw [eq_sp_of_mem_registers huses hr]
    exact ⟨fun _ => rfl, fun _ _ => rfl⟩
  have hrun := Form.run_commutes hoperands hregisters (withPairOrder_flags order i.form s)
  rwa [← exec_eq_form, ← exec_eq_form] at hrun

end Sys2Proof.Claims
end
